-- ==== Sys2Proof/Word.lean ====
section
/-! DEFINITION. The word types of the ST231 and the conversions between words and integers of 00_scope.md R13. -/

namespace Sys2Proof

/-- A byte of memory. -/
abbrev Byte := BitVec 8

/-- A 32-bit word: a general register, a control register, an address, a syllable. -/
abbrev Word := BitVec 32

/-- The number of a general register, R0 to R63 (10_state.md R36). -/
abbrev GReg := BitVec 6

/-- The number of a branch register, B0 to B7 (10_state.md R41). -/
abbrev BReg := BitVec 3

/-- The short immediate ISRC2 (30_encoding.md R294). -/
abbrev Imm9 := BitVec 9

/-- The extension IMM, or the branch offset BTARG (30_encoding.md R294). -/
abbrev Imm23 := BitVec 23

/-- The number SBRKNUM of `sbrk` and `syscall` (30_encoding.md R305). -/
abbrev Imm21 := BitVec 21

/-- `reg32(v)` of 00_scope.md R13: the low 32 bits of an integer. -/
def reg32 (v : Int) : Word := BitVec.ofInt 32 v

/-- `sext_32(w)` of 00_scope.md R13. -/
def sext32 (w : Word) : Int := w.toInt

/-- `zext_32(w)` of 00_scope.md R13, as an integer. -/
def zext32 (w : Word) : Int := (w.toNat : Int)

end Sys2Proof
end

