-- ==== Sys2Proof/Config.lean ====
section
/-! DEFINITION. What an implementation of the ST231 fixes (the parameters of 00_scope.md R8 and R9), with the values
this model takes at reset (log 4), and the free values: constants without a body, of which nothing can be proved
(93_implementation_defined.md; log 8). -/

namespace Sys2Proof

/-- DEBUG_VARIANT (61_platform_devices.md R640). -/
inductive DebugVariant where
  | taplink
  | jtag
deriving DecidableEq, Repr

/-- The parameters of one SDI port (61_platform_devices.md R620, R624, R625). -/
structure SdiCfg where
  /-- SDI_IS_INPUT -/
  isInput : Bool
  /-- SDI_IS_MASTER -/
  isMaster : Bool
  /-- SDI_DEPTH, at least 1 -/
  depth : Nat
  /-- SDI_COUNT_RESET -/
  countReset : Word
deriving DecidableEq, Repr

/-- A range of physical addresses whose reads or writes the platform answers with a bus error
(20_memory.md R152, R190). -/
structure BusErrorRegion where
  /-- First address. -/
  lo : Word
  /-- Last address. -/
  hi : Word
  /-- Reads and fetches fail. -/
  reads : Bool
  /-- Writes fail. -/
  writes : Bool
deriving DecidableEq, Repr

/-- A range of physical addresses. -/
structure AddressRange where
  /-- First address. -/
  lo : Word
  /-- Last address. -/
  hi : Word
deriving DecidableEq, Repr

/-- The open parameters of 00_scope.md R9, constant for a run. -/
structure Cfg where
  /-- BIG_ENDIAN (20_memory.md R143) -/
  bigEndian : Bool
  /-- RESET_PC (70_reset_and_hazards.md R701) -/
  resetPc : Word
  /-- DEBUG_ENABLE (R701) -/
  debugEnable : Bool
  /-- PERIPHERAL_BASE_PINS (10_state.md R66) -/
  peripheralBasePins : BitVec 12
  /-- INTCR_BASE, relative to PERIPHERAL_BASE (61 R580) -/
  intcrBase : Word
  /-- DSU_BASE, relative to PERIPHERAL_BASE (61 R580) -/
  dsuBase : Word
  /-- PRODUCT_ID (10_state.md R71) -/
  productId : BitVec 16
  /-- DSU_VERSION (10_state.md R71) -/
  dsuVersion : BitVec 8
  /-- DEBUG_VARIANT (61 R640) -/
  debugVariant : DebugVariant
  /-- DEBUG_HANDLER_PC (60 R540) -/
  debugHandlerPc : Word
  /-- The four SDI ports (61 R620). -/
  sdi : Vector SdiCfg 4
  /-- Where the external memory answers with a bus error. -/
  busErrors : List BusErrorRegion
  /-- Where the external memory is ROM: it keeps its contents, and a store to it is no error (00 R9; log 4). -/
  readOnly : List AddressRange
  /-- The known first words of the debug ROM (61 R648). -/
  debugRom : List Word
deriving DecidableEq, Repr

/-- PERIPHERAL_BASE: the pins in bits [31:20], the rest 0 (10_state.md R66). -/
def Cfg.peripheralBase (c : Cfg) : Word := c.peripheralBasePins ++ 0#20

/-- VERSION and DSR0: DSU_VERSION, CORE_VERSION 0x05, PRODUCT_ID (10_state.md R71, 61 R642). -/
def Cfg.version (c : Cfg) : Word := c.dsuVersion ++ 5#8 ++ c.productId

/-- DESIGN CHOICE (log 4): the parameters of the machine this model starts from. -/
def Cfg.initial : Cfg where
  bigEndian := false
  resetPc := 0x00001000#32
  debugEnable := false
  peripheralBasePins := 0x1F0#12
  intcrBase := 0#32
  dsuBase := 0x00001000#32
  productId := 0#16
  dsuVersion := 0#8
  debugVariant := .taplink
  debugHandlerPc := 0x1F004004#32
  sdi := #v[⟨true, false, 4, 0x1000#32⟩, ⟨true, false, 4, 0x1000#32⟩,
            ⟨false, true, 4, 0x1000#32⟩, ⟨false, true, 4, 0x1000#32⟩]
  busErrors := []
  readOnly := []
  debugRom := [0xB1000000#32]

/-! ## Free values (log 8). The first argument is the state's counter of free values, but for the ROM. -/

/-- U16: what a load that takes a bus error writes to its destination (60_exceptions.md R524; log 11). -/
opaque Config.freeLoadValue : Nat → Word

/-- U6: whether the bytes of a store whose bus write fails are written (20_memory.md R190; log 11). -/
opaque Config.freeWriteLands : Nat → Bool

/-- U6: whether the bytes of a store are in memory whose failure the bus reports later; the second argument tells the store
(20_memory.md R190; log 11). -/
opaque Config.freeLateWriteLands : Nat → Nat → Bool

/-- U24: the target of an indirect branch while SLR may differ from R63 (70_reset_and_hazards.md R722; log 10). -/
opaque Config.freeBranchTarget : Nat → Word

/-- U15: which of the contents a register had is used by a too early `rfi`; the second argument is the register
(46_system.md R494; log 9). -/
opaque Config.freeSavedChoice : Nat → Nat → Nat

/-- U18: what a load of SDI DATA or READY gives during a channel reset (61 R631; log 12). -/
opaque Config.freeSdiValue : Nat → Word

/-- U18: whether an item is taken from or put into a channel in reset (61 R631; log 12). -/
opaque Config.freeSdiMoves : Nat → Bool

/-- U18: whether an access to a channel in reset waits one more cycle (61 R631; log 12). -/
opaque Config.freeSdiWaits : Nat → Bool

/-- U19: the bound an implementation puts on SDIi_READY; the second argument is the port (61 R623; log 13). -/
opaque Config.freeSdiReady : Nat → Nat → Nat

/-- U22: by how much a counter of an event the model does not define grows; the second argument is the counter
(61 R675; log 14). -/
opaque Config.freeEventCount : Nat → Nat → Nat

/-- U9: which of the values a stored word had is fetched; the second argument is the address of the syllable
(20_memory.md R189; log 15). -/
opaque Config.freeFetchChoice : Nat → Nat → Nat

/-- U10: which of the translations an address had is used after a change of the UTLB or of TLB_ASID that was not made
coherent; the second argument tells the address and the side (21_translation.md R227; log 16). -/
opaque Config.freeTranslation : Nat → Nat → Nat

/-- Whether the platform reports the bus error of a `pft` whose line fill fails (44_load_store_cache.md R452; log 29). -/
opaque Config.freePrefetchError : Nat → Bool

/-- The words of the debug ROM that the manual does not print, by index (61 R648; log 21). -/
opaque Config.freeRomWord : Nat → Word

end Sys2Proof
end

