-- ==== Sys2Proof/Syntax.lean ====
section
/-! DEFINITION. The instruction set as syntax: one constructor for each of the 170 rows of spec/opcode_table.json
(30_encoding.md R297 to R299). An `Instr` is the operation of one syllable without its stop bit. In a name, the
ending R or I is the register or immediate form, RR, BR, RI, BI are the four forms of 41_compare_logical.md R394,
D is the dismissible load, Imm or Link the immediate or link-register form of call and goto. -/

namespace Sys2Proof

/-- One operation or immediate extension of a bundle. -/
inductive Instr where
  /-- `add`, format Int3R, R350. -/
  | addR (dest : GReg) (src1 : GReg) (src2 : GReg)
  /-- `add`, format Int3I, R350. -/
  | addI (idest : GReg) (src1 : GReg) (isrc2 : Imm9)
  /-- `sub`, format Int3R, R351. -/
  | subR (dest : GReg) (src1 : GReg) (src2 : GReg)
  /-- `sub`, format Int3I, R351. -/
  | subI (idest : GReg) (src1 : GReg) (isrc2 : Imm9)
  /-- `shl`, format Int3R, R352. -/
  | shlR (dest : GReg) (src1 : GReg) (src2 : GReg)
  /-- `shl`, format Int3I, R352. -/
  | shlI (idest : GReg) (src1 : GReg) (isrc2 : Imm9)
  /-- `shr`, format Int3R, R353. -/
  | shrR (dest : GReg) (src1 : GReg) (src2 : GReg)
  /-- `shr`, format Int3I, R353. -/
  | shrI (idest : GReg) (src1 : GReg) (isrc2 : Imm9)
  /-- `shru`, format Int3R, R354. -/
  | shruR (dest : GReg) (src1 : GReg) (src2 : GReg)
  /-- `shru`, format Int3I, R354. -/
  | shruI (idest : GReg) (src1 : GReg) (isrc2 : Imm9)
  /-- `sh1add`, format Int3R, R355. -/
  | sh1addR (dest : GReg) (src1 : GReg) (src2 : GReg)
  /-- `sh1add`, format Int3I, R355. -/
  | sh1addI (idest : GReg) (src1 : GReg) (isrc2 : Imm9)
  /-- `sh2add`, format Int3R, R356. -/
  | sh2addR (dest : GReg) (src1 : GReg) (src2 : GReg)
  /-- `sh2add`, format Int3I, R356. -/
  | sh2addI (idest : GReg) (src1 : GReg) (isrc2 : Imm9)
  /-- `sh3add`, format Int3R, R357. -/
  | sh3addR (dest : GReg) (src1 : GReg) (src2 : GReg)
  /-- `sh3add`, format Int3I, R357. -/
  | sh3addI (idest : GReg) (src1 : GReg) (isrc2 : Imm9)
  /-- `sh4add`, format Int3R, R358. -/
  | sh4addR (dest : GReg) (src1 : GReg) (src2 : GReg)
  /-- `sh4add`, format Int3I, R358. -/
  | sh4addI (idest : GReg) (src1 : GReg) (isrc2 : Imm9)
  /-- `and`, format Int3R, R359. -/
  | andR (dest : GReg) (src1 : GReg) (src2 : GReg)
  /-- `and`, format Int3I, R359. -/
  | andI (idest : GReg) (src1 : GReg) (isrc2 : Imm9)
  /-- `andc`, format Int3R, R360. -/
  | andcR (dest : GReg) (src1 : GReg) (src2 : GReg)
  /-- `andc`, format Int3I, R360. -/
  | andcI (idest : GReg) (src1 : GReg) (isrc2 : Imm9)
  /-- `or`, format Int3R, R361. -/
  | orR (dest : GReg) (src1 : GReg) (src2 : GReg)
  /-- `or`, format Int3I, R361. -/
  | orI (idest : GReg) (src1 : GReg) (isrc2 : Imm9)
  /-- `orc`, format Int3R, R362. -/
  | orcR (dest : GReg) (src1 : GReg) (src2 : GReg)
  /-- `orc`, format Int3I, R362. -/
  | orcI (idest : GReg) (src1 : GReg) (isrc2 : Imm9)
  /-- `xor`, format Int3R, R363. -/
  | xorR (dest : GReg) (src1 : GReg) (src2 : GReg)
  /-- `xor`, format Int3I, R363. -/
  | xorI (idest : GReg) (src1 : GReg) (isrc2 : Imm9)
  /-- `mullhus`, format Int3R, R420. -/
  | mullhusR (nldest : GReg) (src1 : GReg) (src2 : GReg)
  /-- `mullhus`, format Int3I, R420. -/
  | mullhusI (nlidest : GReg) (src1 : GReg) (isrc2 : Imm9)
  /-- `max`, format Int3R, R364. -/
  | maxR (dest : GReg) (src1 : GReg) (src2 : GReg)
  /-- `max`, format Int3I, R364. -/
  | maxI (idest : GReg) (src1 : GReg) (isrc2 : Imm9)
  /-- `maxu`, format Int3R, R365. -/
  | maxuR (dest : GReg) (src1 : GReg) (src2 : GReg)
  /-- `maxu`, format Int3I, R365. -/
  | maxuI (idest : GReg) (src1 : GReg) (isrc2 : Imm9)
  /-- `min`, format Int3R, R366. -/
  | minR (dest : GReg) (src1 : GReg) (src2 : GReg)
  /-- `min`, format Int3I, R366. -/
  | minI (idest : GReg) (src1 : GReg) (isrc2 : Imm9)
  /-- `minu`, format Int3R, R367. -/
  | minuR (dest : GReg) (src1 : GReg) (src2 : GReg)
  /-- `minu`, format Int3I, R367. -/
  | minuI (idest : GReg) (src1 : GReg) (isrc2 : Imm9)
  /-- `mulhhs`, format Int3R, R413. -/
  | mulhhsR (nldest : GReg) (src1 : GReg) (src2 : GReg)
  /-- `mulhhs`, format Int3I, R413. -/
  | mulhhsI (nlidest : GReg) (src1 : GReg) (isrc2 : Imm9)
  /-- `mull`, format Int3R, R417. -/
  | mullR (nldest : GReg) (src1 : GReg) (src2 : GReg)
  /-- `mull`, format Int3I, R417. -/
  | mullI (nlidest : GReg) (src1 : GReg) (isrc2 : Imm9)
  /-- `mullu`, format Int3R, R423. -/
  | mulluR (nldest : GReg) (src1 : GReg) (src2 : GReg)
  /-- `mullu`, format Int3I, R423. -/
  | mulluI (nlidest : GReg) (src1 : GReg) (isrc2 : Imm9)
  /-- `mulh`, format Int3R, R411. -/
  | mulhR (nldest : GReg) (src1 : GReg) (src2 : GReg)
  /-- `mulh`, format Int3I, R411. -/
  | mulhI (nlidest : GReg) (src1 : GReg) (isrc2 : Imm9)
  /-- `mulhu`, format Int3R, R416. -/
  | mulhuR (nldest : GReg) (src1 : GReg) (src2 : GReg)
  /-- `mulhu`, format Int3I, R416. -/
  | mulhuI (nlidest : GReg) (src1 : GReg) (isrc2 : Imm9)
  /-- `mulll`, format Int3R, R421. -/
  | mulllR (nldest : GReg) (src1 : GReg) (src2 : GReg)
  /-- `mulll`, format Int3I, R421. -/
  | mulllI (nlidest : GReg) (src1 : GReg) (isrc2 : Imm9)
  /-- `mulllu`, format Int3R, R422. -/
  | mullluR (nldest : GReg) (src1 : GReg) (src2 : GReg)
  /-- `mulllu`, format Int3I, R422. -/
  | mullluI (nlidest : GReg) (src1 : GReg) (isrc2 : Imm9)
  /-- `mullh`, format Int3R, R418. -/
  | mullhR (nldest : GReg) (src1 : GReg) (src2 : GReg)
  /-- `mullh`, format Int3I, R418. -/
  | mullhI (nlidest : GReg) (src1 : GReg) (isrc2 : Imm9)
  /-- `mullhu`, format Int3R, R419. -/
  | mullhuR (nldest : GReg) (src1 : GReg) (src2 : GReg)
  /-- `mullhu`, format Int3I, R419. -/
  | mullhuI (nlidest : GReg) (src1 : GReg) (isrc2 : Imm9)
  /-- `mulhh`, format Int3R, R412. -/
  | mulhhR (nldest : GReg) (src1 : GReg) (src2 : GReg)
  /-- `mulhh`, format Int3I, R412. -/
  | mulhhI (nlidest : GReg) (src1 : GReg) (isrc2 : Imm9)
  /-- `mulhhu`, format Int3R, R414. -/
  | mulhhuR (nldest : GReg) (src1 : GReg) (src2 : GReg)
  /-- `mulhhu`, format Int3I, R414. -/
  | mulhhuI (nlidest : GReg) (src1 : GReg) (isrc2 : Imm9)
  /-- `mulhs`, format Int3R, R415. -/
  | mulhsR (nldest : GReg) (src1 : GReg) (src2 : GReg)
  /-- `mulhs`, format Int3I, R415. -/
  | mulhsI (nlidest : GReg) (src1 : GReg) (isrc2 : Imm9)
  /-- `sxtb`, format Monadic, R368. -/
  | sxtb (idest : GReg) (src1 : GReg)
  /-- `sxth`, format Monadic, R369. -/
  | sxth (idest : GReg) (src1 : GReg)
  /-- `bswap`, format Monadic, R370. -/
  | bswap (idest : GReg) (src1 : GReg)
  /-- `zxth`, format Monadic, R371. -/
  | zxth (idest : GReg) (src1 : GReg)
  /-- `clz`, format Monadic, R372. -/
  | clz (idest : GReg) (src1 : GReg)
  /-- `cmpeq`, format Cmp3R_Reg, R380. -/
  | cmpeqRR (dest : GReg) (src1 : GReg) (src2 : GReg)
  /-- `cmpeq`, format Cmp3R_Br, R380. -/
  | cmpeqBR (bdest : BReg) (src1 : GReg) (src2 : GReg)
  /-- `cmpeq`, format Cmp3I_Reg, R380. -/
  | cmpeqRI (idest : GReg) (src1 : GReg) (isrc2 : Imm9)
  /-- `cmpeq`, format Cmp3I_Br, R380. -/
  | cmpeqBI (ibdest : BReg) (src1 : GReg) (isrc2 : Imm9)
  /-- `cmpne`, format Cmp3R_Reg, R381. -/
  | cmpneRR (dest : GReg) (src1 : GReg) (src2 : GReg)
  /-- `cmpne`, format Cmp3R_Br, R381. -/
  | cmpneBR (bdest : BReg) (src1 : GReg) (src2 : GReg)
  /-- `cmpne`, format Cmp3I_Reg, R381. -/
  | cmpneRI (idest : GReg) (src1 : GReg) (isrc2 : Imm9)
  /-- `cmpne`, format Cmp3I_Br, R381. -/
  | cmpneBI (ibdest : BReg) (src1 : GReg) (isrc2 : Imm9)
  /-- `cmpge`, format Cmp3R_Reg, R382. -/
  | cmpgeRR (dest : GReg) (src1 : GReg) (src2 : GReg)
  /-- `cmpge`, format Cmp3R_Br, R382. -/
  | cmpgeBR (bdest : BReg) (src1 : GReg) (src2 : GReg)
  /-- `cmpge`, format Cmp3I_Reg, R382. -/
  | cmpgeRI (idest : GReg) (src1 : GReg) (isrc2 : Imm9)
  /-- `cmpge`, format Cmp3I_Br, R382. -/
  | cmpgeBI (ibdest : BReg) (src1 : GReg) (isrc2 : Imm9)
  /-- `cmpgeu`, format Cmp3R_Reg, R383. -/
  | cmpgeuRR (dest : GReg) (src1 : GReg) (src2 : GReg)
  /-- `cmpgeu`, format Cmp3R_Br, R383. -/
  | cmpgeuBR (bdest : BReg) (src1 : GReg) (src2 : GReg)
  /-- `cmpgeu`, format Cmp3I_Reg, R383. -/
  | cmpgeuRI (idest : GReg) (src1 : GReg) (isrc2 : Imm9)
  /-- `cmpgeu`, format Cmp3I_Br, R383. -/
  | cmpgeuBI (ibdest : BReg) (src1 : GReg) (isrc2 : Imm9)
  /-- `cmpgt`, format Cmp3R_Reg, R384. -/
  | cmpgtRR (dest : GReg) (src1 : GReg) (src2 : GReg)
  /-- `cmpgt`, format Cmp3R_Br, R384. -/
  | cmpgtBR (bdest : BReg) (src1 : GReg) (src2 : GReg)
  /-- `cmpgt`, format Cmp3I_Reg, R384. -/
  | cmpgtRI (idest : GReg) (src1 : GReg) (isrc2 : Imm9)
  /-- `cmpgt`, format Cmp3I_Br, R384. -/
  | cmpgtBI (ibdest : BReg) (src1 : GReg) (isrc2 : Imm9)
  /-- `cmpgtu`, format Cmp3R_Reg, R385. -/
  | cmpgtuRR (dest : GReg) (src1 : GReg) (src2 : GReg)
  /-- `cmpgtu`, format Cmp3R_Br, R385. -/
  | cmpgtuBR (bdest : BReg) (src1 : GReg) (src2 : GReg)
  /-- `cmpgtu`, format Cmp3I_Reg, R385. -/
  | cmpgtuRI (idest : GReg) (src1 : GReg) (isrc2 : Imm9)
  /-- `cmpgtu`, format Cmp3I_Br, R385. -/
  | cmpgtuBI (ibdest : BReg) (src1 : GReg) (isrc2 : Imm9)
  /-- `cmple`, format Cmp3R_Reg, R386. -/
  | cmpleRR (dest : GReg) (src1 : GReg) (src2 : GReg)
  /-- `cmple`, format Cmp3R_Br, R386. -/
  | cmpleBR (bdest : BReg) (src1 : GReg) (src2 : GReg)
  /-- `cmple`, format Cmp3I_Reg, R386. -/
  | cmpleRI (idest : GReg) (src1 : GReg) (isrc2 : Imm9)
  /-- `cmple`, format Cmp3I_Br, R386. -/
  | cmpleBI (ibdest : BReg) (src1 : GReg) (isrc2 : Imm9)
  /-- `cmpleu`, format Cmp3R_Reg, R387. -/
  | cmpleuRR (dest : GReg) (src1 : GReg) (src2 : GReg)
  /-- `cmpleu`, format Cmp3R_Br, R387. -/
  | cmpleuBR (bdest : BReg) (src1 : GReg) (src2 : GReg)
  /-- `cmpleu`, format Cmp3I_Reg, R387. -/
  | cmpleuRI (idest : GReg) (src1 : GReg) (isrc2 : Imm9)
  /-- `cmpleu`, format Cmp3I_Br, R387. -/
  | cmpleuBI (ibdest : BReg) (src1 : GReg) (isrc2 : Imm9)
  /-- `cmplt`, format Cmp3R_Reg, R388. -/
  | cmpltRR (dest : GReg) (src1 : GReg) (src2 : GReg)
  /-- `cmplt`, format Cmp3R_Br, R388. -/
  | cmpltBR (bdest : BReg) (src1 : GReg) (src2 : GReg)
  /-- `cmplt`, format Cmp3I_Reg, R388. -/
  | cmpltRI (idest : GReg) (src1 : GReg) (isrc2 : Imm9)
  /-- `cmplt`, format Cmp3I_Br, R388. -/
  | cmpltBI (ibdest : BReg) (src1 : GReg) (isrc2 : Imm9)
  /-- `cmpltu`, format Cmp3R_Reg, R389. -/
  | cmpltuRR (dest : GReg) (src1 : GReg) (src2 : GReg)
  /-- `cmpltu`, format Cmp3R_Br, R389. -/
  | cmpltuBR (bdest : BReg) (src1 : GReg) (src2 : GReg)
  /-- `cmpltu`, format Cmp3I_Reg, R389. -/
  | cmpltuRI (idest : GReg) (src1 : GReg) (isrc2 : Imm9)
  /-- `cmpltu`, format Cmp3I_Br, R389. -/
  | cmpltuBI (ibdest : BReg) (src1 : GReg) (isrc2 : Imm9)
  /-- `andl`, format Cmp3R_Reg, R390. -/
  | andlRR (dest : GReg) (src1 : GReg) (src2 : GReg)
  /-- `andl`, format Cmp3R_Br, R390. -/
  | andlBR (bdest : BReg) (src1 : GReg) (src2 : GReg)
  /-- `andl`, format Cmp3I_Reg, R390. -/
  | andlRI (idest : GReg) (src1 : GReg) (isrc2 : Imm9)
  /-- `andl`, format Cmp3I_Br, R390. -/
  | andlBI (ibdest : BReg) (src1 : GReg) (isrc2 : Imm9)
  /-- `nandl`, format Cmp3R_Reg, R391. -/
  | nandlRR (dest : GReg) (src1 : GReg) (src2 : GReg)
  /-- `nandl`, format Cmp3R_Br, R391. -/
  | nandlBR (bdest : BReg) (src1 : GReg) (src2 : GReg)
  /-- `nandl`, format Cmp3I_Reg, R391. -/
  | nandlRI (idest : GReg) (src1 : GReg) (isrc2 : Imm9)
  /-- `nandl`, format Cmp3I_Br, R391. -/
  | nandlBI (ibdest : BReg) (src1 : GReg) (isrc2 : Imm9)
  /-- `orl`, format Cmp3R_Reg, R392. -/
  | orlRR (dest : GReg) (src1 : GReg) (src2 : GReg)
  /-- `orl`, format Cmp3R_Br, R392. -/
  | orlBR (bdest : BReg) (src1 : GReg) (src2 : GReg)
  /-- `orl`, format Cmp3I_Reg, R392. -/
  | orlRI (idest : GReg) (src1 : GReg) (isrc2 : Imm9)
  /-- `orl`, format Cmp3I_Br, R392. -/
  | orlBI (ibdest : BReg) (src1 : GReg) (isrc2 : Imm9)
  /-- `norl`, format Cmp3R_Reg, R393. -/
  | norlRR (dest : GReg) (src1 : GReg) (src2 : GReg)
  /-- `norl`, format Cmp3R_Br, R393. -/
  | norlBR (bdest : BReg) (src1 : GReg) (src2 : GReg)
  /-- `norl`, format Cmp3I_Reg, R393. -/
  | norlRI (idest : GReg) (src1 : GReg) (isrc2 : Imm9)
  /-- `norl`, format Cmp3I_Br, R393. -/
  | norlBI (ibdest : BReg) (src1 : GReg) (isrc2 : Imm9)
  /-- `mul32`, format Mul64R, R424. -/
  | mul32R (nldest : GReg) (src1 : GReg) (src2 : GReg)
  /-- `mul32`, format Mul64I, R424. -/
  | mul32I (nlidest : GReg) (src1 : GReg) (isrc2 : Imm9)
  /-- `mul64h`, format Mul64R, R425. -/
  | mul64hR (nldest : GReg) (src1 : GReg) (src2 : GReg)
  /-- `mul64h`, format Mul64I, R425. -/
  | mul64hI (nlidest : GReg) (src1 : GReg) (isrc2 : Imm9)
  /-- `mul64hu`, format Mul64R, R426. -/
  | mul64huR (nldest : GReg) (src1 : GReg) (src2 : GReg)
  /-- `mul64hu`, format Mul64I, R426. -/
  | mul64huI (nlidest : GReg) (src1 : GReg) (isrc2 : Imm9)
  /-- `mulfrac`, format Mul64R, R427. -/
  | mulfracR (nldest : GReg) (src1 : GReg) (src2 : GReg)
  /-- `mulfrac`, format Mul64I, R427. -/
  | mulfracI (nlidest : GReg) (src1 : GReg) (isrc2 : Imm9)
  /-- `slct`, format SelectR, R400. -/
  | slctR (dest : GReg) (scond : BReg) (src1 : GReg) (src2 : GReg)
  /-- `slct`, format SelectI, R400. -/
  | slctI (idest : GReg) (scond : BReg) (src1 : GReg) (isrc2 : Imm9)
  /-- `slctf`, format SelectR, R401. -/
  | slctfR (dest : GReg) (scond : BReg) (src1 : GReg) (src2 : GReg)
  /-- `slctf`, format SelectI, R401. -/
  | slctfI (idest : GReg) (scond : BReg) (src1 : GReg) (isrc2 : Imm9)
  /-- `addcg`, format cgen, R402. -/
  | addcg (dest : GReg) (bdest : BReg) (scond : BReg) (src1 : GReg) (src2 : GReg)
  /-- `divs`, format cgen, R403. -/
  | divs (dest : GReg) (bdest : BReg) (scond : BReg) (src1 : GReg) (src2 : GReg)
  /-- `imml`, format Imm, R301. -/
  | imml (imm : Imm23)
  /-- `immr`, format Imm, R301. -/
  | immr (imm : Imm23)
  /-- `prgins`, format SysOp, R456. -/
  | prgins
  /-- `sbrk`, format SBreak, R490. -/
  | sbrk (sbrknum : Imm21)
  /-- `syscall`, format SBreak, R489. -/
  | syscall (sbrknum : Imm21)
  /-- `break`, format SysOp, R491. -/
  | breakOp
  /-- `ldw`, format Load, R435. -/
  | ldw (idest : GReg) (src1 : GReg) (isrc2 : Imm9)
  /-- `ldw.d`, format Load, R436. -/
  | ldwD (idest : GReg) (src1 : GReg) (isrc2 : Imm9)
  /-- `ldh`, format Load, R437. -/
  | ldh (nlidest : GReg) (src1 : GReg) (isrc2 : Imm9)
  /-- `ldh.d`, format Load, R438. -/
  | ldhD (nlidest : GReg) (src1 : GReg) (isrc2 : Imm9)
  /-- `ldhu`, format Load, R439. -/
  | ldhu (nlidest : GReg) (src1 : GReg) (isrc2 : Imm9)
  /-- `ldhu.d`, format Load, R440. -/
  | ldhuD (nlidest : GReg) (src1 : GReg) (isrc2 : Imm9)
  /-- `ldb`, format Load, R441. -/
  | ldb (nlidest : GReg) (src1 : GReg) (isrc2 : Imm9)
  /-- `ldb.d`, format Load, R442. -/
  | ldbD (nlidest : GReg) (src1 : GReg) (isrc2 : Imm9)
  /-- `ldbu`, format Load, R443. -/
  | ldbu (nlidest : GReg) (src1 : GReg) (isrc2 : Imm9)
  /-- `ldbu.d`, format Load, R444. -/
  | ldbuD (nlidest : GReg) (src1 : GReg) (isrc2 : Imm9)
  /-- `stw`, format Store, R445. -/
  | stw (src2 : GReg) (src1 : GReg) (isrc2 : Imm9)
  /-- `sth`, format Store, R446. -/
  | sth (src2 : GReg) (src1 : GReg) (isrc2 : Imm9)
  /-- `stb`, format Store, R447. -/
  | stb (src2 : GReg) (src1 : GReg) (isrc2 : Imm9)
  /-- `pft`, format Store, R451. -/
  | pft (src1 : GReg) (isrc2 : Imm9)
  /-- `prgadd`, format Store, R453. -/
  | prgadd (src1 : GReg) (isrc2 : Imm9)
  /-- `prgset`, format Store, R454. -/
  | prgset (src1 : GReg) (isrc2 : Imm9)
  /-- `sync`, format Store, R455. -/
  | sync
  /-- `prginspg`, format Store, R457. -/
  | prginspg (src1 : GReg) (isrc2 : Imm9)
  /-- `pswset`, format Psw, R485. -/
  | pswset (src2 : GReg)
  /-- `pswclr`, format Psw, R486. -/
  | pswclr (src2 : GReg)
  /-- `call`, format Call, R472. -/
  | callImm (btarg : Imm23)
  /-- `call`, format Call, R473. -/
  | callLink
  /-- `goto`, format Call, R474. -/
  | gotoImm (btarg : Imm23)
  /-- `goto`, format Call, R475. -/
  | gotoLink
  /-- `rfi`, format Call, R488. -/
  | rfi
  /-- `br`, format Branch, R470. -/
  | br (bcond : BReg) (btarg : Imm23)
  /-- `brf`, format Branch, R471. -/
  | brf (bcond : BReg) (btarg : Imm23)
deriving DecidableEq, Repr

end Sys2Proof
end

