-- ==== Sys2Proof/Machine/State.lean ====
section
/-! DEFINITION. The state of the machine as plain data: everything 10_state.md to 61_platform_devices.md give it,
with its value at reset (70_reset_and_hazards.md R702, R703). -/

namespace Sys2Proof.Machine

/-- The exceptions of 60_exceptions.md R520; number 13 is reserved. -/
inductive Exc where
  | stbusIcError
  | stbusDcError
  | externInt
  | ibreak
  | itlb
  | sbreak
  | illInst
  | syscall
  | dbreak
  | misalignedTrap
  | cregNoMapping
  | cregAccessViolation
  | dtlb
  | sdiTimeout
deriving DecidableEq, Repr

/-- The control registers of 10_state.md R55. -/
inductive CReg where
  | psw
  | savedPsw
  | savedPc
  | handlerPc
  | excause
  | exaddress
  | version
  | savedSavedPsw
  | savedSavedPc
  | peripheralBase
  | scratch (n : Fin 4)
  | excauseno
  | tlbIndex
  | tlbEntry0
  | tlbEntry1
  | tlbEntry2
  | tlbEntry3
  | tlbExcause
  | tlbControl
  | tlbReplace
  | tlbAsid
  | reserved
  | dbreakLower
  | dbreakUpper
  | dbreakControl
  | state1
  | ibreakLower
  | ibreakUpper
  | ibreakControl
  | pmCr
  | pmCnt (n : Fin 4)
  | pmPclk
  | sdiData (port : Fin 4)
  | sdiReady (port : Fin 4)
  | sdiControl (port : Fin 4)
  | sdiCount (port : Fin 4)
  | sdiTimeout (port : Fin 4)
  | scuBase (n : Fin 4)
  | scuLimit (n : Fin 4)
deriving DecidableEq, Repr

/-- How the operation being evaluated ended (log 6). -/
inductive Signal where
  /-- It committed its effect. -/
  | done
  /-- It raised an exception; the state is that of trap entry (60_exceptions.md R513, R514). -/
  | raised (x : Exc)
  /-- It waits on an SDI port (61 R627). -/
  | stalled
deriving DecidableEq, Repr

/-- A register with the unenforced latency of 70_reset_and_hazards.md R720: its value, and the older contents a too
early `rfi` may still use, each with the number of bundles that remain (log 9). -/
structure SavedReg where
  value : Word
  olds : List (Word × Nat)
deriving DecidableEq, Repr

/-- A UTLB entry (21_translation.md R224). -/
structure TlbEntry where
  asid : BitVec 8
  shared : Bool
  protSuper : BitVec 3
  protUser : BitVec 3
  dirty : Bool
  policy : BitVec 4
  size : BitVec 3
  partition : BitVec 2
  vaddr : BitVec 19
  paddr : BitVec 19
deriving DecidableEq, Repr

/-- TLB_EXCAUSE (21_translation.md R248). -/
structure TlbExcause where
  index : BitVec 8
  cause : BitVec 2
  spec : Bool
  write : Bool
  inUtlb : Bool
deriving DecidableEq, Repr

/-- A copy of a UTLB entry. -/
structure TlbCopy where
  /-- Which entry. -/
  index : Nat
  /-- What it was when it was copied. -/
  entry : TlbEntry
deriving DecidableEq, Repr

/-- The ITLB or the DTLB (21_translation.md R225 to R227; log 16). -/
structure MicroTlb where
  /-- The translations it may hold: the entries its side has used since it was flushed. -/
  copies : List TlbCopy
  /-- The translations flushed from it that the pipeline or the instruction buffer may still use (R260). -/
  pipe : List TlbCopy
deriving DecidableEq, Repr

/-- A change of what the UTLB means, to be undone for an access that may not see it yet (21_translation.md R227, R260;
93 U10; log 16). -/
inductive TlbChange where
  /-- An entry, with what it was. -/
  | entry (old : TlbCopy)
  /-- TLB_ASID, with what it was and the number of bundles that may still see that (21_translation.md R261). -/
  | asid (old : BitVec 8) (bundles : Nat)
deriving DecidableEq, Repr

/-- The older translations that may still be used (log 16). -/
structure TlbHistory where
  itlb : MicroTlb
  dtlb : MicroTlb
  /-- The changes that may not have reached the UTLB yet, the newest first. -/
  recent : List TlbChange
  /-- The changes before those, which have reached it but perhaps not the pipeline and the instruction buffer. -/
  landed : List TlbChange
deriving DecidableEq, Repr

/-- The translation unit (21_translation.md R224, R236 to R248). -/
structure Tlb where
  index : BitVec 8
  entries : Vector TlbEntry 64
  excause : TlbExcause
  asid : BitVec 8
  lfsr : BitVec 16
  limit : BitVec 8
  history : TlbHistory
deriving DecidableEq, Repr

/-- A region of the speculative control unit (21_translation.md R270, R271). -/
structure ScuRegion where
  base : BitVec 19
  limit : BitVec 19
deriving DecidableEq, Repr

/-- The registers of a breakpoint comparison (61 R650 to R653). -/
structure BreakUnit where
  lower : Word
  upper : Word
  control : BitVec 4
deriving DecidableEq, Repr

/-- The performance monitor (61 R670 to R673). -/
structure Pm where
  enb : Bool
  idle : Bool
  events : Vector (BitVec 5) 4
  cnt : Vector Word 4
  pclk : Word
deriving DecidableEq, Repr

/-- An SDI port (61 R620, R624 to R626). -/
structure SdiPort where
  priv : BitVec 2
  resetIn : Bool
  resetOut : Bool
  timeoutDisable : Bool
  count : Word
  timeout : Word
  /-- The items of the channel, the head first. -/
  chan : List Word
deriving DecidableEq, Repr

/-- The interrupt controller and its inputs (61 R590 to R598). -/
structure Intc where
  mask : BitVec 64
  test : BitVec 64
  /-- LINE[63:3] -/
  lines : BitVec 61
  /-- IRQ_MASTER_IN -/
  irqMaster : Bool
deriving DecidableEq, Repr

/-- A timer (61 R600 to R605). -/
structure Timer where
  const : Word
  count : Word
  enable : Bool
  intEnable : Bool
  status : Bool
deriving DecidableEq, Repr

/-- The timers, TIMEDIVIDE and the prescaler (61 R600, R604). -/
structure Timers where
  timer : Vector Timer 3
  divide : BitVec 16
  presc : BitVec 16
deriving DecidableEq, Repr

/-- The debug support unit (61 R641 to R647, 60_exceptions.md R541). -/
structure Dsu where
  supervisorWrite : Bool
  userWrite : Bool
  eventAckPending : Bool
  outputPending : Bool
  triggerOut : Bool
  triggerEnable : Bool
  swFlags : BitVec 16
  /-- DSR2 to DSR31. -/
  regs : Vector Word 30
  /-- The byte or word in flight to the host. -/
  sending : Word
  /-- The trigger input pin. -/
  triggerIn : Bool
  /-- debug_irq_pending -/
  irqPending : Bool
deriving DecidableEq, Repr

/-- How far the sequence of 20_memory.md R189 has come for a stored word (log 15). -/
inductive StaleStage where
  /-- Possibly in the data cache: a purge is needed. -/
  | cached
  /-- On its way to memory: `sync` is needed. -/
  | posted
  /-- In memory: the instruction cache is to be invalidated. -/
  | inMemory
deriving DecidableEq, Repr

/-- A store, with the value its word had before: instruction fetch may still return it (93 U9; log 15), and it is what
memory holds if the write fails and is lost (93 U6; log 11). -/
structure StaleWord where
  /-- Physical word address. -/
  addr : Word
  old : Word
  stage : StaleStage
  /-- Instruction cache quadrants invalidated, `syncins` still to come. -/
  invalidated : BitVec 4
  /-- Quadrants whose fetches are sure to see the new value. -/
  clean : BitVec 4
  /-- The bytes of the word the store wrote, bit `i` for the byte at `addr + i`; none once it is known to be lost. -/
  bytes : BitVec 4
deriving DecidableEq, Repr

/-- A message of the debug host (61 R656, R657), reserved commands apart, which are `nop`s. -/
inductive HostMsg where
  | nop
  | peek (reg : Fin 32) (count : Nat)
  | poke (reg : Fin 32) (values : List Word)
  | event (reason channel : BitVec 3)
  | eventAck
  | peeked
deriving DecidableEq, Repr

/-- One input of the environment (61 R581, R596, R598, R620, R643, R656, R657, R691; log 7). -/
inductive EnvEvent where
  /-- One bus clock cycle. -/
  | busClock
  /-- One core clock cycle beyond the one each step takes. -/
  | coreClock
  /-- LINE[63:3] takes this value. -/
  | lines (v : BitVec 61)
  /-- IRQ_MASTER_IN takes this value. -/
  | irqMaster (v : Bool)
  /-- The trigger input takes this value. -/
  | triggerIn (v : Bool)
  /-- The far end offers an item to an input port. -/
  | sdiPush (port : Fin 4) (v : Word)
  /-- The far end takes an item from an output port. -/
  | sdiPop (port : Fin 4)
  /-- RESETINPUT of a port takes this value. -/
  | sdiResetIn (port : Fin 4) (v : Bool)
  /-- A message of the debug host arrives. -/
  | host (m : HostMsg)
  /-- The host link sends what DSR2 holds for it. -/
  | linkSent
  /-- The bus reports that an earlier write failed: that of record `k` of the state's list of stores, the latest being 0, if
  it may still be on its way (20_memory.md R190; log 11). -/
  | writeFailed (k : Nat)
  /-- Another initiator of the bus reads a word of the peripheral block (61 R691). -/
  | busRead (pa : Word)
  /-- Another initiator of the bus writes a word of the peripheral block (61 R691). -/
  | busWrite (pa v : Word)
deriving DecidableEq, Repr

/-- The state of the machine. -/
structure State where
  /-- The parameters, constant for a run. -/
  cfg : Cfg
  /-- PC (10_state.md R32); while a bundle executes, BUNDLE_PC. -/
  pc : Word
  /-- NEXT_PC while an operation is evaluated (log 6). -/
  nextPc : Word
  /-- The immediate extension in force (30_encoding.md R300; log 6). -/
  ext : Option Imm23
  /-- How the operation being evaluated ended (log 6). -/
  signal : Signal
  /-- R0 to R63; slot 0 is never read (10_state.md R36, R37). -/
  gpr : Vector Word 64
  /-- B0 to B7 (10_state.md R41). -/
  br : Vector Bool 8
  /-- slr_valid (70_reset_and_hazards.md R722). -/
  slrValid : Bool
  /-- PSW (10_state.md R44). -/
  psw : Word
  savedPsw : SavedReg
  savedPc : SavedReg
  savedSavedPsw : SavedReg
  savedSavedPc : SavedReg
  handlerPc : Word
  excauseno : BitVec 5
  exaddress : Word
  scratch : Vector Word 4
  /-- STATE1.PARTITION (10_state.md R68). -/
  partition : BitVec 2
  tlb : Tlb
  scu : Vector ScuRegion 4
  dbreak : BreakUnit
  ibreak : BreakUnit
  pm : Pm
  sdi : Vector SdiPort 4
  intc : Intc
  timers : Timers
  dsu : Dsu
  /-- bus_error_pending (60_exceptions.md R524). -/
  busErrorPending : Bool
  /-- core_idle (61 R690). -/
  coreIdle : Bool
  /-- The words of the bundle that waits on an SDI port, if one does (61 R627; log 24). -/
  waiting : Option (List Word)
  /-- The control register the bundle stores to (61 R672; log 26). -/
  cregStored : Option CReg
  /-- Physical memory: addresses strictly rising, no byte equal to what an unlisted address reads as. -/
  mem : List Host.Cell
  /-- Stored words not yet sure to be seen by instruction fetch (log 15). -/
  stale : List StaleWord
  /-- The inputs of the environment, one list for each coming step (log 7). -/
  env : List (List EnvEvent)
  /-- The counter the free values are applied to (log 8). -/
  free : Nat
deriving DecidableEq, Repr

/-- Why the machine stops: for no reason, since the spec gives every instruction and every input an effect. -/
inductive Fault where
deriving DecidableEq, Repr

/-- Why an instruction has no meaning in the model. -/
inductive Refusal where
  /-- Raised by an arm of `exec` whose instruction has no meaning yet; no arm of this model uses it. Safe. -/
  | notModelled (mnemonic : String)
deriving DecidableEq, Repr

/-- A saved register that holds `v` and nothing older. -/
def SavedReg.of (v : Word) : SavedReg := ⟨v, []⟩

/-- No older translation may be used. -/
def TlbHistory.empty : TlbHistory := ⟨⟨[], []⟩, ⟨[], []⟩, [], []⟩

/-- A disabled UTLB entry. -/
def TlbEntry.zero : TlbEntry := ⟨0#8, false, 0#3, 0#3, false, 0#4, 0#3, 0#2, 0#19, 0#19⟩

/-- The PC after reset (70_reset_and_hazards.md R701). -/
def Cfg.startPc (c : Cfg) : Word := if c.debugEnable then c.peripheralBase + 0x4000#32 else c.resetPc

/-- An SDI port after reset (61 R620, R624 to R626). -/
def SdiPort.reset (c : SdiCfg) : SdiPort := ⟨0#2, false, false, false, c.countReset, c.countReset, []⟩

/-- The machine right after reset with given parameters (70_reset_and_hazards.md R702; log 1, log 2, log 3). -/
def State.resetWith (c : Cfg) : State where
  cfg := c
  pc := Cfg.startPc c
  nextPc := Cfg.startPc c
  ext := none
  signal := .done
  gpr := Vector.replicate 64 0#32
  br := Vector.replicate 8 false
  slrValid := true
  psw := 0#32
  savedPsw := .of 0#32
  savedPc := .of 0#32
  savedSavedPsw := .of 0#32
  savedSavedPc := .of 0#32
  handlerPc := 0#32
  excauseno := 0#5
  exaddress := 0#32
  scratch := Vector.replicate 4 0#32
  partition := 0#2
  tlb := ⟨0#8, Vector.replicate 64 TlbEntry.zero, ⟨0#8, 0#2, false, false, false⟩, 0#8, 0xFFFF#16, 0x40#8,
    TlbHistory.empty⟩
  scu := Vector.replicate 4 ⟨0#19, 0x7FFFF#19⟩
  dbreak := ⟨0#32, 0#32, 0#4⟩
  ibreak := ⟨0#32, 0#32, 0#4⟩
  pm := ⟨false, false, Vector.replicate 4 0#5, Vector.replicate 4 0#32, 0#32⟩
  sdi := #v[SdiPort.reset c.sdi[0], SdiPort.reset c.sdi[1], SdiPort.reset c.sdi[2], SdiPort.reset c.sdi[3]]
  intc := ⟨0#64, 0#64, 0#61, false⟩
  timers := ⟨Vector.replicate 3 ⟨0#32, 0#32, false, false, false⟩, 0#16, 0#16⟩
  dsu := ⟨true, false, false, false, false, false, 0#16, Vector.replicate 30 0#32, 0#32, false, false⟩
  busErrorPending := false
  coreIdle := false
  waiting := none
  cregStored := none
  mem := []
  stale := []
  env := []
  free := 0

/-- The machine right after reset. -/
def State.reset : State := State.resetWith Cfg.initial

end Sys2Proof.Machine
end

