-- ==== Sys2Proof/Machine/Operands.lean ====
section
/-! DEFINITION. The operand forms of the operations: registers, immediates, effective addresses and branch targets
(00_scope.md R14, 30_encoding.md R300, 20_memory.md R147, 45_control_transfer.md R478). -/

namespace Sys2Proof.Machine

/-- `R[r]`: reading R0 gives 0 (10_state.md R37). -/
def State.r (s : State) (r : GReg) : Word := if r = 0#6 then 0#32 else s.gpr[r.toNat]'r.isLt

/-- `B[b]` (10_state.md R41). -/
def State.b (s : State) (b : BReg) : Bool := s.br[b.toNat]'b.isLt

/-- The general registers after `R[r] <- v`; a write to R0 is discarded (10_state.md R37). -/
def setGpr (g : Vector Word 64) (r : GReg) (v : Word) : Vector Word 64 :=
  if r = 0#6 then g else g.set r.toNat v r.isLt

/-- The branch registers after `B[b] <- v`. -/
def setBr (g : Vector Bool 8) (b : BReg) (v : Bool) : Vector Bool 8 := g.set b.toNat v b.isLt

/-- `R[r] <- v`. A write of R63 makes the speculative link register true again (70_reset_and_hazards.md R722). -/
def State.writeR (s : State) (r : GReg) (v : Word) : State :=
  { s with gpr := setGpr s.gpr r v, slrValid := s.slrValid || r == 63#6 }

/-- `B[b] <- v`. -/
def State.writeB (s : State) (b : BReg) (v : Bool) : State := { s with br := setBr s.br b v }

/-- `Imm(isrc2)` of 30_encoding.md R300 as a 32-bit word: the short immediate sign-extended, or the extension in
force followed by the 9 bits. -/
def State.imm (s : State) (isrc2 : Imm9) : Word :=
  match s.ext with
  | none => isrc2.signExtend 32
  | some x => x ++ isrc2

/-- The effective address of 20_memory.md R147 and 44_load_store_cache.md R448. -/
def State.ea (s : State) (src1 : GReg) (isrc2 : Imm9) : Word := reg32 (sext32 (s.imm isrc2) + sext32 (s.r src1))

/-- A value on its way into the PC loses bits [1:0] (10_state.md R34). -/
def toPc (w : Word) : Word := w &&& 0xFFFFFFFC#32

/-- `reg32(BUNDLE_PC + (sext_23(btarg) << 2))` (45_control_transfer.md R478). -/
def branchTarget (pc : Word) (btarg : Imm23) : Word := reg32 (zext32 pc + btarg.toInt * 4)

/-- Bits [7:0] as an integer, the shift distance of 40_integer.md R377. -/
def zext8 (w : Word) : Nat := w.toNat % 256

/-- `sext_16` of a word (00_scope.md R13). -/
def sext16 (w : Word) : Int := (w.setWidth 16).toInt

/-- `zext_16` of a word. -/
def zext16 (w : Word) : Int := ((w.setWidth 16).toNat : Int)

/-- `zext_16` of an integer. -/
def zext16i (v : Int) : Int := ((BitVec.ofInt 16 v).toNat : Int)

/-- `n >> b` on integers: the floor of n / 2^b (00_scope.md R12). -/
def sar (n : Int) (b : Nat) : Int := n / (2 ^ b : Int)

/-- `n << b` on integers. -/
def sal (n : Int) (b : Nat) : Int := n * (2 ^ b : Int)

end Sys2Proof.Machine
end

