-- ==== Sys2Proof/Machine/Flags.lean ====
section
/-! DEFINITION. Truth values and the carry and sign bits that operations write to branch registers. The machine has
no flags register (10_state.md R41, 40_integer.md R374): these bits are all there is. -/

namespace Sys2Proof.Machine

/-- A truth value in a general register: exactly 0 or 1 (41_compare_logical.md R395). -/
def truthWord (c : Bool) : Word := if c then 1#32 else 0#32

/-- `zext_1` of a branch register (42_select_carry_divide.md R402). -/
def zext1 (b : Bool) : Nat := if b then 1 else 0

/-- The exact sum of `addcg`, 0 to 2^33 - 1 (42_select_carry_divide.md R402). -/
def carrySum (a b : Word) (c : Bool) : Nat := a.toNat + b.toNat + zext1 c

/-- Bit 32 of the sum of `addcg`, the carry out. -/
def carryOut (a b : Word) (c : Bool) : Bool := (carrySum a b c).testBit 32

/-- The bit `divs` writes: the sign of the first source before the step (42_select_carry_divide.md R403). -/
def divideBit (a : Word) : Bool := decide (sext32 a < 0)

/-- The value `divs` adds to or subtracts from: the first source shifted left with the carry in at bit 0. -/
def divideTemp (a : Word) (c : Bool) : Int := zext32 (reg32 (sext32 a * 2) ||| BitVec.ofNat 32 (zext1 c))

/-- The word result of `divs` (42_select_carry_divide.md R403). -/
def divideWord (a b : Word) (c : Bool) : Word :=
  if sext32 a < 0 then reg32 (divideTemp a c + sext32 b) else reg32 (divideTemp a c - sext32 b)

end Sys2Proof.Machine
end

