-- ==== Sys2Proof/Machine/Ops.lean ====
section
/-! DEFINITION. The named operations: physical memory, the fields of the PSW, taking an exception, taking the debug
interrupt and returning from either (20_memory.md R140 to R155, 60_exceptions.md R514, R540, R551). -/

namespace Sys2Proof.Machine

/-! ## Physical memory -/

/-- What a byte that is not listed reads as. DESIGN CHOICE (log 3). -/
def unlistedByte : Byte := 0#8

/-- The byte of memory at a physical address. -/
def memByte (m : List Host.Cell) (a : Nat) : Byte :=
  match m with
  | [] => unlistedByte
  | c :: rest => if c.1 = a then c.2 else memByte rest a

/-- Memory with the byte at `a` unlisted, which the walk over the list has already passed by. -/
def memCons (a : Nat) (v : Byte) (m : List Host.Cell) : List Host.Cell :=
  if v = unlistedByte then m else (a, v) :: m

/-- Memory after the byte `v` is written at `a`; the canonical form is kept. -/
def memSet (m : List Host.Cell) (a : Nat) (v : Byte) : List Host.Cell :=
  match m with
  | [] => memCons a v []
  | c :: rest =>
    if a < c.1 then memCons a v (c :: rest)
    else if a = c.1 then memCons a v rest
    else c :: memSet rest a v

/-- The canonical form from an address on: strictly rising below 2^32, no entry equal to an unlisted byte. -/
def memWfFrom (lo : Nat) (m : List Host.Cell) : Bool :=
  match m with
  | [] => true
  | c :: rest => decide (lo ≤ c.1) && decide (c.1 < 2 ^ 32) && decide (c.2 ≠ unlistedByte) && memWfFrom (c.1 + 1) rest

/-- The canonical form of memory. -/
def Memory.wf (m : List Host.Cell) : Bool := memWfFrom 0 m

/-- The widths of a data access (20_memory.md R146). -/
inductive Width where
  | byte
  | half
  | word
deriving DecidableEq, Repr

/-- The number of bytes of an access. -/
def Width.bytes (w : Width) : Nat :=
  match w with
  | .byte => 1
  | .half => 2
  | .word => 4

/-- The physical addresses of the bytes of an access. -/
def Width.covers (w : Width) (pa : Word) (a : Nat) : Prop :=
  match w with
  | .byte => a = pa.toNat
  | .half => a = pa.toNat ∨ a = (pa + 1#32).toNat
  | .word => a = pa.toNat ∨ a = (pa + 1#32).toNat ∨ a = (pa + 2#32).toNat ∨ a = (pa + 3#32).toNat

/-- The byte at physical address `pa`. -/
def memAt (m : List Host.Cell) (pa : Word) : Byte := memByte m pa.toNat

/-- `MEM[pa FOR n]` as an unsigned word, in the byte order of the core (20_memory.md R141). -/
def memLoad (big : Bool) (m : List Host.Cell) (w : Width) (pa : Word) : Word :=
  let b0 := memAt m pa
  let b1 := memAt m (pa + 1#32)
  let b2 := memAt m (pa + 2#32)
  let b3 := memAt m (pa + 3#32)
  match w with
  | .byte => 0#24 ++ b0
  | .half => if big then 0#16 ++ b0 ++ b1 else 0#16 ++ b1 ++ b0
  | .word => if big then b0 ++ b1 ++ b2 ++ b3 else b3 ++ b2 ++ b1 ++ b0

/-- Byte `k` of a value, counted from the least significant. -/
def valueByte (v : Word) (k : Nat) : Byte := v.extractLsb' (8 * k) 8

/-- `MEM[pa FOR n] <- v` (20_memory.md R141, R155). -/
def memStore (big : Bool) (m : List Host.Cell) (w : Width) (pa v : Word) : List Host.Cell :=
  match w with
  | .byte => memSet m pa.toNat (valueByte v 0)
  | .half =>
    let lo := if big then 1 else 0
    memSet (memSet m pa.toNat (valueByte v lo)) (pa + 1#32).toNat (valueByte v (1 - lo))
  | .word =>
    let k (i : Nat) := if big then 3 - i else i
    memSet (memSet (memSet (memSet m pa.toNat (valueByte v (k 0)))
      (pa + 1#32).toNat (valueByte v (k 1)))
      (pa + 2#32).toNat (valueByte v (k 2)))
      (pa + 3#32).toNat (valueByte v (k 3))

/-! ## The PSW (10_state.md R44) -/

/-- PSW_WMASK (10_state.md R45). -/
def pswWritable : Word := 0x0000131F#32

/-- USER_MODE, bit 0. -/
def State.userMode (s : State) : Bool := s.psw.getLsbD 0
/-- INT_ENABLE, bit 1. -/
def State.intEnable (s : State) : Bool := s.psw.getLsbD 1
/-- TLB_ENABLE, bit 2. -/
def State.tlbEnable (s : State) : Bool := s.psw.getLsbD 2
/-- TLB_DYNAMIC, bit 3. -/
def State.tlbDynamic (s : State) : Bool := s.psw.getLsbD 3
/-- SPECLOAD_MALIGNTRAP_EN, bit 4. -/
def State.specMalignTrap (s : State) : Bool := s.psw.getLsbD 4
/-- DBREAK_ENABLE, bit 8. -/
def State.dbreakEnable (s : State) : Bool := s.psw.getLsbD 8
/-- IBREAK_ENABLE, bit 9. -/
def State.ibreakEnable (s : State) : Bool := s.psw.getLsbD 9
/-- DEBUG_MODE, bit 12. -/
def State.debugMode (s : State) : Bool := s.psw.getLsbD 12

/-- `PswWrite(new)` of 46_system.md R493 on the value `old`: only writable bits, and DEBUG_MODE never from 0 to 1. -/
def pswWrite (old new : Word) : Word :=
  if old.getLsbD 12 then new &&& pswWritable else new &&& pswWritable &&& ~~~0x00001000#32

/-! ## Exceptions (60_exceptions.md) -/

/-- The number, which is the priority, of an exception (60_exceptions.md R520). -/
def Exc.number (x : Exc) : Nat :=
  match x with
  | .stbusIcError => 0
  | .stbusDcError => 1
  | .externInt => 2
  | .ibreak => 3
  | .itlb => 4
  | .sbreak => 5
  | .illInst => 6
  | .syscall => 7
  | .dbreak => 8
  | .misalignedTrap => 9
  | .cregNoMapping => 10
  | .cregAccessViolation => 11
  | .dtlb => 12
  | .sdiTimeout => 14

/-- `raise X(v)` (00_scope.md R17), with what a TLB exception writes to TLB_EXCAUSE (21_translation.md R257). -/
structure Raise where
  exc : Exc
  value : Word
  tlb : Option TlbExcause
deriving DecidableEq, Repr

/-- `raise X`, without a value. -/
def Raise.plain (x : Exc) : Raise := ⟨x, 0#32, none⟩

/-- `raise X(v)`. -/
def Raise.at (x : Exc) (v : Word) : Raise := ⟨x, v, none⟩

/-- `ExceptAddress(X, v)` (60_exceptions.md R516). -/
def exceptAddress (x : Exc) (v : Word) : Word :=
  match x with
  | .dbreak | .misalignedTrap | .cregNoMapping | .cregAccessViolation | .dtlb | .itlb | .sdiTimeout => v
  | .stbusIcError | .stbusDcError | .externInt | .ibreak | .sbreak | .illInst | .syscall => 0#32

/-- The PSW after trap entry: bits 0, 1, 8 and 9 cleared (60_exceptions.md R514). -/
def trapPsw (psw : Word) : Word := psw &&& ~~~0x00000303#32

/-- Trap entry (60_exceptions.md R514, R517): the trap point is PC, the handler becomes NEXT_PC. Taking
STBUS_DC_ERROR clears its pending flag (R524); SLR may differ from R63 afterwards (70_reset_and_hazards.md R722). The end
of the step (`settleBundle`) empties the pipeline and the instruction buffer (R517). -/
def trapEntry (r : Raise) (s : State) : State :=
  { s with
    excauseno := BitVec.ofNat 5 r.exc.number
    exaddress := exceptAddress r.exc r.value
    savedPsw := .of s.psw
    savedPc := .of s.pc
    psw := trapPsw s.psw
    tlb := { s.tlb with excause := r.tlb.getD s.tlb.excause }
    nextPc := toPc s.handlerPc
    slrValid := false
    busErrorPending := s.busErrorPending && r.exc != .stbusDcError
    signal := .raised r.exc }

/-- The PSW after debug interrupt entry (60_exceptions.md R540). -/
def debugPsw (psw : Word) : Word := (psw &&& ~~~0x00000307#32) ||| 0x00001000#32

/-- Debug interrupt entry (60_exceptions.md R540, R541); the end of the step empties the pipeline and the instruction
buffer (70_reset_and_hazards.md R735). -/
def debugEntry (s : State) : State :=
  { s with
    savedSavedPsw := .of s.savedPsw.value
    savedSavedPc := .of s.savedPc.value
    savedPsw := .of s.psw
    savedPc := .of s.pc
    psw := debugPsw s.psw
    nextPc := toPc s.cfg.debugHandlerPc
    slrValid := false
    dsu := { s.dsu with irqPending := false }
    signal := .done }

/-- The outcome of an operation that raises. -/
def raised (r : Raise) (s : State) : Host.Outcome State Fault Refusal := .next (trapEntry r s)

/-- A choice among a newest value and older ones by a free number (log 8, log 9, log 15). -/
def pick {α : Type} (n : Nat) (new : α) (olds : List α) : α := (new :: olds).getD n new

/-- What `rfi` uses of a saved register: its value, or freely an older one while fewer than four bundles lie between
the store and the `rfi` (46_system.md R494; log 9). `k` tells the four registers apart. -/
def rfiUse (free k : Nat) (x : SavedReg) : Word :=
  match x.olds with
  | [] => x.value
  | olds => pick (Config.freeSavedChoice free k) x.value (olds.map Prod.fst)

/-- A store to a saved register: its older contents may be used for five more bundles, its own among them. -/
def SavedReg.store (x : SavedReg) (v : Word) : SavedReg := ⟨v, (x.value, 5) :: x.olds⟩

/-- One bundle has committed: contents whose bundles are over go. -/
def SavedReg.tick (x : SavedReg) : SavedReg :=
  ⟨x.value, (x.olds.map (fun o => (o.1, o.2 - 1))).filter (fun o => decide (0 < o.2))⟩

/-- Nothing that a micro-TLB was flushed of is in use any more. -/
def MicroTlb.drain (m : MicroTlb) : MicroTlb := { m with pipe := [] }

/-- The pipeline is emptied: every earlier change of the UTLB and of TLB_ASID is seen, but for the translations a
micro-TLB holds (21_translation.md R260, R261, 10_state.md R97; log 16). -/
def Tlb.settle (t : Tlb) : Tlb := { t with history := ⟨t.history.itlb.drain, t.history.dtlb.drain, [], []⟩ }

/-- A change after one more bundle: that of TLB_ASID is seen in the end (21_translation.md R261). -/
def TlbChange.tick (c : TlbChange) : Option TlbChange :=
  match c with
  | .entry x => some (.entry x)
  | .asid old n => if n ≤ 1 then none else some (.asid old (n - 1))

/-- One bundle has committed. -/
def Tlb.tick (t : Tlb) : Tlb :=
  { t with history := { t.history with landed := t.history.landed.filterMap TlbChange.tick } }

/-- Return from a trap (60_exceptions.md R551, 46_system.md R488): all right-hand sides are the values before. DESIGN
CHOICE (log 9): what it writes to the saved pair ends the hazard of 46_system.md R494 for that pair, so that a next `rfi`
uses no older contents. -/
def returnFromTrap (s : State) : State :=
  { s with
    nextPc := toPc (rfiUse s.free 0 s.savedPc)
    psw := pswWrite s.psw (rfiUse s.free 1 s.savedPsw)
    savedPc := .of (rfiUse s.free 2 s.savedSavedPc)
    savedPsw := .of (rfiUse s.free 3 s.savedSavedPsw)
    tlb := s.tlb.settle }

/-- A privileged operation in user mode raises ILL_INST (46_system.md R487, 60_exceptions.md R561); in supervisor mode
it has its effect. -/
def privileged (s : State) (effect : Host.Outcome State Fault Refusal) : Host.Outcome State Fault Refusal :=
  if s.userMode then raised (.plain .illInst) s else effect

end Sys2Proof.Machine
end

