-- ==== Sys2Proof/Machine/Compare.lean ====
section
/-! DEFINITION. Compare and logical operations (41_compare_logical.md): the truth value of each, written to a general
register as 0 or 1 or to a branch register (R394, R395). -/

namespace Sys2Proof.Machine

/-- The truth value of `cmpeq` (41_compare_logical.md R380). -/
def cmpeqHolds (a b : Word) : Bool := decide (sext32 a = sext32 b)

/-- The truth value of `cmpne` (41_compare_logical.md R381). -/
def cmpneHolds (a b : Word) : Bool := decide (sext32 a ≠ sext32 b)

/-- The truth value of `cmpge` (41_compare_logical.md R382). -/
def cmpgeHolds (a b : Word) : Bool := decide (sext32 a ≥ sext32 b)

/-- The truth value of `cmpgeu` (41_compare_logical.md R383). -/
def cmpgeuHolds (a b : Word) : Bool := decide (zext32 a ≥ zext32 b)

/-- The truth value of `cmpgt` (41_compare_logical.md R384). -/
def cmpgtHolds (a b : Word) : Bool := decide (sext32 a > sext32 b)

/-- The truth value of `cmpgtu` (41_compare_logical.md R385). -/
def cmpgtuHolds (a b : Word) : Bool := decide (zext32 a > zext32 b)

/-- The truth value of `cmple` (41_compare_logical.md R386). -/
def cmpleHolds (a b : Word) : Bool := decide (sext32 a ≤ sext32 b)

/-- The truth value of `cmpleu` (41_compare_logical.md R387). -/
def cmpleuHolds (a b : Word) : Bool := decide (zext32 a ≤ zext32 b)

/-- The truth value of `cmplt` (41_compare_logical.md R388). -/
def cmpltHolds (a b : Word) : Bool := decide (sext32 a < sext32 b)

/-- The truth value of `cmpltu` (41_compare_logical.md R389). -/
def cmpltuHolds (a b : Word) : Bool := decide (zext32 a < zext32 b)

/-- The truth value of `andl` (41_compare_logical.md R390). -/
def andlHolds (a b : Word) : Bool := decide (sext32 a ≠ 0 ∧ sext32 b ≠ 0)

/-- The truth value of `nandl` (41_compare_logical.md R391). -/
def nandlHolds (a b : Word) : Bool := decide (¬(sext32 a ≠ 0 ∧ sext32 b ≠ 0))

/-- The truth value of `orl` (41_compare_logical.md R392). -/
def orlHolds (a b : Word) : Bool := decide (sext32 a ≠ 0 ∨ sext32 b ≠ 0)

/-- The truth value of `norl` (41_compare_logical.md R393). -/
def norlHolds (a b : Word) : Bool := decide (¬(sext32 a ≠ 0 ∨ sext32 b ≠ 0))

/-- `cmpeq`, form RR (41_compare_logical.md R380). -/
def execCmpeqRR (dest : GReg) (src1 : GReg) (src2 : GReg) (s : State) : Host.Outcome State Fault Refusal :=
  .next (s.writeR dest (truthWord (cmpeqHolds (s.r src1) (s.r src2))))

/-- `cmpeq`, form BR (41_compare_logical.md R380). -/
def execCmpeqBR (bdest : BReg) (src1 : GReg) (src2 : GReg) (s : State) : Host.Outcome State Fault Refusal :=
  .next (s.writeB bdest (cmpeqHolds (s.r src1) (s.r src2)))

/-- `cmpeq`, form RI (41_compare_logical.md R380). -/
def execCmpeqRI (idest : GReg) (src1 : GReg) (isrc2 : Imm9) (s : State) : Host.Outcome State Fault Refusal :=
  .next (s.writeR idest (truthWord (cmpeqHolds (s.r src1) (s.imm isrc2))))

/-- `cmpeq`, form BI (41_compare_logical.md R380). -/
def execCmpeqBI (ibdest : BReg) (src1 : GReg) (isrc2 : Imm9) (s : State) : Host.Outcome State Fault Refusal :=
  .next (s.writeB ibdest (cmpeqHolds (s.r src1) (s.imm isrc2)))

/-- `cmpne`, form RR (41_compare_logical.md R381). -/
def execCmpneRR (dest : GReg) (src1 : GReg) (src2 : GReg) (s : State) : Host.Outcome State Fault Refusal :=
  .next (s.writeR dest (truthWord (cmpneHolds (s.r src1) (s.r src2))))

/-- `cmpne`, form BR (41_compare_logical.md R381). -/
def execCmpneBR (bdest : BReg) (src1 : GReg) (src2 : GReg) (s : State) : Host.Outcome State Fault Refusal :=
  .next (s.writeB bdest (cmpneHolds (s.r src1) (s.r src2)))

/-- `cmpne`, form RI (41_compare_logical.md R381). -/
def execCmpneRI (idest : GReg) (src1 : GReg) (isrc2 : Imm9) (s : State) : Host.Outcome State Fault Refusal :=
  .next (s.writeR idest (truthWord (cmpneHolds (s.r src1) (s.imm isrc2))))

/-- `cmpne`, form BI (41_compare_logical.md R381). -/
def execCmpneBI (ibdest : BReg) (src1 : GReg) (isrc2 : Imm9) (s : State) : Host.Outcome State Fault Refusal :=
  .next (s.writeB ibdest (cmpneHolds (s.r src1) (s.imm isrc2)))

/-- `cmpge`, form RR (41_compare_logical.md R382). -/
def execCmpgeRR (dest : GReg) (src1 : GReg) (src2 : GReg) (s : State) : Host.Outcome State Fault Refusal :=
  .next (s.writeR dest (truthWord (cmpgeHolds (s.r src1) (s.r src2))))

/-- `cmpge`, form BR (41_compare_logical.md R382). -/
def execCmpgeBR (bdest : BReg) (src1 : GReg) (src2 : GReg) (s : State) : Host.Outcome State Fault Refusal :=
  .next (s.writeB bdest (cmpgeHolds (s.r src1) (s.r src2)))

/-- `cmpge`, form RI (41_compare_logical.md R382). -/
def execCmpgeRI (idest : GReg) (src1 : GReg) (isrc2 : Imm9) (s : State) : Host.Outcome State Fault Refusal :=
  .next (s.writeR idest (truthWord (cmpgeHolds (s.r src1) (s.imm isrc2))))

/-- `cmpge`, form BI (41_compare_logical.md R382). -/
def execCmpgeBI (ibdest : BReg) (src1 : GReg) (isrc2 : Imm9) (s : State) : Host.Outcome State Fault Refusal :=
  .next (s.writeB ibdest (cmpgeHolds (s.r src1) (s.imm isrc2)))

/-- `cmpgeu`, form RR (41_compare_logical.md R383). -/
def execCmpgeuRR (dest : GReg) (src1 : GReg) (src2 : GReg) (s : State) : Host.Outcome State Fault Refusal :=
  .next (s.writeR dest (truthWord (cmpgeuHolds (s.r src1) (s.r src2))))

/-- `cmpgeu`, form BR (41_compare_logical.md R383). -/
def execCmpgeuBR (bdest : BReg) (src1 : GReg) (src2 : GReg) (s : State) : Host.Outcome State Fault Refusal :=
  .next (s.writeB bdest (cmpgeuHolds (s.r src1) (s.r src2)))

/-- `cmpgeu`, form RI (41_compare_logical.md R383). -/
def execCmpgeuRI (idest : GReg) (src1 : GReg) (isrc2 : Imm9) (s : State) : Host.Outcome State Fault Refusal :=
  .next (s.writeR idest (truthWord (cmpgeuHolds (s.r src1) (s.imm isrc2))))

/-- `cmpgeu`, form BI (41_compare_logical.md R383). -/
def execCmpgeuBI (ibdest : BReg) (src1 : GReg) (isrc2 : Imm9) (s : State) : Host.Outcome State Fault Refusal :=
  .next (s.writeB ibdest (cmpgeuHolds (s.r src1) (s.imm isrc2)))

/-- `cmpgt`, form RR (41_compare_logical.md R384). -/
def execCmpgtRR (dest : GReg) (src1 : GReg) (src2 : GReg) (s : State) : Host.Outcome State Fault Refusal :=
  .next (s.writeR dest (truthWord (cmpgtHolds (s.r src1) (s.r src2))))

/-- `cmpgt`, form BR (41_compare_logical.md R384). -/
def execCmpgtBR (bdest : BReg) (src1 : GReg) (src2 : GReg) (s : State) : Host.Outcome State Fault Refusal :=
  .next (s.writeB bdest (cmpgtHolds (s.r src1) (s.r src2)))

/-- `cmpgt`, form RI (41_compare_logical.md R384). -/
def execCmpgtRI (idest : GReg) (src1 : GReg) (isrc2 : Imm9) (s : State) : Host.Outcome State Fault Refusal :=
  .next (s.writeR idest (truthWord (cmpgtHolds (s.r src1) (s.imm isrc2))))

/-- `cmpgt`, form BI (41_compare_logical.md R384). -/
def execCmpgtBI (ibdest : BReg) (src1 : GReg) (isrc2 : Imm9) (s : State) : Host.Outcome State Fault Refusal :=
  .next (s.writeB ibdest (cmpgtHolds (s.r src1) (s.imm isrc2)))

/-- `cmpgtu`, form RR (41_compare_logical.md R385). -/
def execCmpgtuRR (dest : GReg) (src1 : GReg) (src2 : GReg) (s : State) : Host.Outcome State Fault Refusal :=
  .next (s.writeR dest (truthWord (cmpgtuHolds (s.r src1) (s.r src2))))

/-- `cmpgtu`, form BR (41_compare_logical.md R385). -/
def execCmpgtuBR (bdest : BReg) (src1 : GReg) (src2 : GReg) (s : State) : Host.Outcome State Fault Refusal :=
  .next (s.writeB bdest (cmpgtuHolds (s.r src1) (s.r src2)))

/-- `cmpgtu`, form RI (41_compare_logical.md R385). -/
def execCmpgtuRI (idest : GReg) (src1 : GReg) (isrc2 : Imm9) (s : State) : Host.Outcome State Fault Refusal :=
  .next (s.writeR idest (truthWord (cmpgtuHolds (s.r src1) (s.imm isrc2))))

/-- `cmpgtu`, form BI (41_compare_logical.md R385). -/
def execCmpgtuBI (ibdest : BReg) (src1 : GReg) (isrc2 : Imm9) (s : State) : Host.Outcome State Fault Refusal :=
  .next (s.writeB ibdest (cmpgtuHolds (s.r src1) (s.imm isrc2)))

/-- `cmple`, form RR (41_compare_logical.md R386). -/
def execCmpleRR (dest : GReg) (src1 : GReg) (src2 : GReg) (s : State) : Host.Outcome State Fault Refusal :=
  .next (s.writeR dest (truthWord (cmpleHolds (s.r src1) (s.r src2))))

/-- `cmple`, form BR (41_compare_logical.md R386). -/
def execCmpleBR (bdest : BReg) (src1 : GReg) (src2 : GReg) (s : State) : Host.Outcome State Fault Refusal :=
  .next (s.writeB bdest (cmpleHolds (s.r src1) (s.r src2)))

/-- `cmple`, form RI (41_compare_logical.md R386). -/
def execCmpleRI (idest : GReg) (src1 : GReg) (isrc2 : Imm9) (s : State) : Host.Outcome State Fault Refusal :=
  .next (s.writeR idest (truthWord (cmpleHolds (s.r src1) (s.imm isrc2))))

/-- `cmple`, form BI (41_compare_logical.md R386). -/
def execCmpleBI (ibdest : BReg) (src1 : GReg) (isrc2 : Imm9) (s : State) : Host.Outcome State Fault Refusal :=
  .next (s.writeB ibdest (cmpleHolds (s.r src1) (s.imm isrc2)))

/-- `cmpleu`, form RR (41_compare_logical.md R387). -/
def execCmpleuRR (dest : GReg) (src1 : GReg) (src2 : GReg) (s : State) : Host.Outcome State Fault Refusal :=
  .next (s.writeR dest (truthWord (cmpleuHolds (s.r src1) (s.r src2))))

/-- `cmpleu`, form BR (41_compare_logical.md R387). -/
def execCmpleuBR (bdest : BReg) (src1 : GReg) (src2 : GReg) (s : State) : Host.Outcome State Fault Refusal :=
  .next (s.writeB bdest (cmpleuHolds (s.r src1) (s.r src2)))

/-- `cmpleu`, form RI (41_compare_logical.md R387). -/
def execCmpleuRI (idest : GReg) (src1 : GReg) (isrc2 : Imm9) (s : State) : Host.Outcome State Fault Refusal :=
  .next (s.writeR idest (truthWord (cmpleuHolds (s.r src1) (s.imm isrc2))))

/-- `cmpleu`, form BI (41_compare_logical.md R387). -/
def execCmpleuBI (ibdest : BReg) (src1 : GReg) (isrc2 : Imm9) (s : State) : Host.Outcome State Fault Refusal :=
  .next (s.writeB ibdest (cmpleuHolds (s.r src1) (s.imm isrc2)))

/-- `cmplt`, form RR (41_compare_logical.md R388). -/
def execCmpltRR (dest : GReg) (src1 : GReg) (src2 : GReg) (s : State) : Host.Outcome State Fault Refusal :=
  .next (s.writeR dest (truthWord (cmpltHolds (s.r src1) (s.r src2))))

/-- `cmplt`, form BR (41_compare_logical.md R388). -/
def execCmpltBR (bdest : BReg) (src1 : GReg) (src2 : GReg) (s : State) : Host.Outcome State Fault Refusal :=
  .next (s.writeB bdest (cmpltHolds (s.r src1) (s.r src2)))

/-- `cmplt`, form RI (41_compare_logical.md R388). -/
def execCmpltRI (idest : GReg) (src1 : GReg) (isrc2 : Imm9) (s : State) : Host.Outcome State Fault Refusal :=
  .next (s.writeR idest (truthWord (cmpltHolds (s.r src1) (s.imm isrc2))))

/-- `cmplt`, form BI (41_compare_logical.md R388). -/
def execCmpltBI (ibdest : BReg) (src1 : GReg) (isrc2 : Imm9) (s : State) : Host.Outcome State Fault Refusal :=
  .next (s.writeB ibdest (cmpltHolds (s.r src1) (s.imm isrc2)))

/-- `cmpltu`, form RR (41_compare_logical.md R389). -/
def execCmpltuRR (dest : GReg) (src1 : GReg) (src2 : GReg) (s : State) : Host.Outcome State Fault Refusal :=
  .next (s.writeR dest (truthWord (cmpltuHolds (s.r src1) (s.r src2))))

/-- `cmpltu`, form BR (41_compare_logical.md R389). -/
def execCmpltuBR (bdest : BReg) (src1 : GReg) (src2 : GReg) (s : State) : Host.Outcome State Fault Refusal :=
  .next (s.writeB bdest (cmpltuHolds (s.r src1) (s.r src2)))

/-- `cmpltu`, form RI (41_compare_logical.md R389). -/
def execCmpltuRI (idest : GReg) (src1 : GReg) (isrc2 : Imm9) (s : State) : Host.Outcome State Fault Refusal :=
  .next (s.writeR idest (truthWord (cmpltuHolds (s.r src1) (s.imm isrc2))))

/-- `cmpltu`, form BI (41_compare_logical.md R389). -/
def execCmpltuBI (ibdest : BReg) (src1 : GReg) (isrc2 : Imm9) (s : State) : Host.Outcome State Fault Refusal :=
  .next (s.writeB ibdest (cmpltuHolds (s.r src1) (s.imm isrc2)))

/-- `andl`, form RR (41_compare_logical.md R390). -/
def execAndlRR (dest : GReg) (src1 : GReg) (src2 : GReg) (s : State) : Host.Outcome State Fault Refusal :=
  .next (s.writeR dest (truthWord (andlHolds (s.r src1) (s.r src2))))

/-- `andl`, form BR (41_compare_logical.md R390). -/
def execAndlBR (bdest : BReg) (src1 : GReg) (src2 : GReg) (s : State) : Host.Outcome State Fault Refusal :=
  .next (s.writeB bdest (andlHolds (s.r src1) (s.r src2)))

/-- `andl`, form RI (41_compare_logical.md R390). -/
def execAndlRI (idest : GReg) (src1 : GReg) (isrc2 : Imm9) (s : State) : Host.Outcome State Fault Refusal :=
  .next (s.writeR idest (truthWord (andlHolds (s.r src1) (s.imm isrc2))))

/-- `andl`, form BI (41_compare_logical.md R390). -/
def execAndlBI (ibdest : BReg) (src1 : GReg) (isrc2 : Imm9) (s : State) : Host.Outcome State Fault Refusal :=
  .next (s.writeB ibdest (andlHolds (s.r src1) (s.imm isrc2)))

/-- `nandl`, form RR (41_compare_logical.md R391). -/
def execNandlRR (dest : GReg) (src1 : GReg) (src2 : GReg) (s : State) : Host.Outcome State Fault Refusal :=
  .next (s.writeR dest (truthWord (nandlHolds (s.r src1) (s.r src2))))

/-- `nandl`, form BR (41_compare_logical.md R391). -/
def execNandlBR (bdest : BReg) (src1 : GReg) (src2 : GReg) (s : State) : Host.Outcome State Fault Refusal :=
  .next (s.writeB bdest (nandlHolds (s.r src1) (s.r src2)))

/-- `nandl`, form RI (41_compare_logical.md R391). -/
def execNandlRI (idest : GReg) (src1 : GReg) (isrc2 : Imm9) (s : State) : Host.Outcome State Fault Refusal :=
  .next (s.writeR idest (truthWord (nandlHolds (s.r src1) (s.imm isrc2))))

/-- `nandl`, form BI (41_compare_logical.md R391). -/
def execNandlBI (ibdest : BReg) (src1 : GReg) (isrc2 : Imm9) (s : State) : Host.Outcome State Fault Refusal :=
  .next (s.writeB ibdest (nandlHolds (s.r src1) (s.imm isrc2)))

/-- `orl`, form RR (41_compare_logical.md R392). -/
def execOrlRR (dest : GReg) (src1 : GReg) (src2 : GReg) (s : State) : Host.Outcome State Fault Refusal :=
  .next (s.writeR dest (truthWord (orlHolds (s.r src1) (s.r src2))))

/-- `orl`, form BR (41_compare_logical.md R392). -/
def execOrlBR (bdest : BReg) (src1 : GReg) (src2 : GReg) (s : State) : Host.Outcome State Fault Refusal :=
  .next (s.writeB bdest (orlHolds (s.r src1) (s.r src2)))

/-- `orl`, form RI (41_compare_logical.md R392). -/
def execOrlRI (idest : GReg) (src1 : GReg) (isrc2 : Imm9) (s : State) : Host.Outcome State Fault Refusal :=
  .next (s.writeR idest (truthWord (orlHolds (s.r src1) (s.imm isrc2))))

/-- `orl`, form BI (41_compare_logical.md R392). -/
def execOrlBI (ibdest : BReg) (src1 : GReg) (isrc2 : Imm9) (s : State) : Host.Outcome State Fault Refusal :=
  .next (s.writeB ibdest (orlHolds (s.r src1) (s.imm isrc2)))

/-- `norl`, form RR (41_compare_logical.md R393). -/
def execNorlRR (dest : GReg) (src1 : GReg) (src2 : GReg) (s : State) : Host.Outcome State Fault Refusal :=
  .next (s.writeR dest (truthWord (norlHolds (s.r src1) (s.r src2))))

/-- `norl`, form BR (41_compare_logical.md R393). -/
def execNorlBR (bdest : BReg) (src1 : GReg) (src2 : GReg) (s : State) : Host.Outcome State Fault Refusal :=
  .next (s.writeB bdest (norlHolds (s.r src1) (s.r src2)))

/-- `norl`, form RI (41_compare_logical.md R393). -/
def execNorlRI (idest : GReg) (src1 : GReg) (isrc2 : Imm9) (s : State) : Host.Outcome State Fault Refusal :=
  .next (s.writeR idest (truthWord (norlHolds (s.r src1) (s.imm isrc2))))

/-- `norl`, form BI (41_compare_logical.md R393). -/
def execNorlBI (ibdest : BReg) (src1 : GReg) (isrc2 : Imm9) (s : State) : Host.Outcome State Fault Refusal :=
  .next (s.writeB ibdest (norlHolds (s.r src1) (s.imm isrc2)))

end Sys2Proof.Machine
end

