-- ==== Sys2Proof/Machine/Translate.lean ====
section
/-! DEFINITION. Address translation and protection, the speculative control unit and the breakpoint comparisons
(21_translation.md R249 to R258, R272; 61_platform_devices.md R654, R655). The ITLB and DTLB are transparent
in a program that keeps to R260; otherwise an older translation may be used: one that a micro-TLB may hold, or what the
UTLB and TLB_ASID gave before a change that the pipeline may not see yet (R227; 93 U10; log 16). -/

namespace Sys2Proof.Machine

/-! ## The UTLB -/

/-- `k(e)` of 21_translation.md R249: the page of an entry has 2^k bytes; none if SIZE is 0 or reserved (R239). -/
def pageBits (size : BitVec 3) : Option Nat :=
  match size.toNat with
  | 1 => some 13
  | 2 => some 22
  | 3 => some 28
  | _ => none

/-- `SpaceOk(e)` of 21_translation.md R249. -/
def spaceOk (t : Tlb) (e : TlbEntry) : Bool := e.shared || e.asid == t.asid

/-- `Match(i, a)` of 21_translation.md R249 for the entry `e`. -/
def entryMatches (t : Tlb) (e : TlbEntry) (a : Word) : Bool :=
  match pageBits e.size with
  | none => false
  | some k => spaceOk t e && decide (a.toNat >>> k = e.vaddr.toNat >>> (k - 13))

/-- The entries of a list that match `a`, each with its index, the first of the list having index `i`. -/
def hitsFrom (t : Tlb) (a : Word) (i : Nat) (es : List TlbEntry) : List (Nat × TlbEntry) :=
  match es with
  | [] => []
  | e :: rest => if entryMatches t e a then (i, e) :: hitsFrom t a (i + 1) rest else hitsFrom t a (i + 1) rest

/-- `Hits(a)` of 21_translation.md R249, in rising order, each index with its entry. -/
def hits (t : Tlb) (a : Word) : List (Nat × TlbEntry) := hitsFrom t a 0 t.entries.toList

/-- What the lookup of an address gives. -/
inductive Lookup where
  /-- Translation is off (21_translation.md R222). -/
  | off
  /-- No entry matches. -/
  | miss
  /-- Several entries match. -/
  | multi
  /-- Exactly the entry `e`, of index `i`, matches. -/
  | hit (i : Nat) (e : TlbEntry)
deriving DecidableEq, Repr

/-- The lookup of an address in the UTLB as it stands. -/
def lookupIn (t : Tlb) (a : Word) : Lookup :=
  match hits t a with
  | [] => .miss
  | [x] => .hit x.1 x.2
  | _ => .multi

/-- The two sides that translate, each with its micro-TLB. -/
inductive Side where
  | fetch
  | data
deriving DecidableEq, Repr

/-- The UTLB with one entry replaced. -/
def Tlb.setEntry (t : Tlb) (i : Nat) (e : TlbEntry) : Tlb := { t with entries := t.entries.setIfInBounds i e }

/-- The UTLB before a change. -/
def Tlb.undo (t : Tlb) (c : TlbChange) : Tlb :=
  match c with
  | .entry x => t.setEntry x.index x.entry
  | .asid old _ => { t with asid := old }

/-- The UTLB before each of some changes, the newest first. -/
def Tlb.before (t : Tlb) (cs : List TlbChange) : List Tlb :=
  match cs with
  | [] => []
  | c :: rest => t.undo c :: (t.undo c).before rest

/-- The micro-TLB of a side. -/
def TlbHistory.side (h : TlbHistory) (d : Side) : MicroTlb :=
  match d with
  | .fetch => h.itlb
  | .data => h.dtlb

/-- The copies a side may use: those its micro-TLB holds, and those it was flushed of that the pipeline may use yet. -/
def Tlb.heldCopies (t : Tlb) (d : Side) : List TlbCopy := (t.history.side d).copies ++ (t.history.side d).pipe

/-- What the lookup of an address by a side may give in place of `lookupIn t a`: a held copy, of an entry that has changed
or is not the only match any more (the UTLB is asked on a miss of the micro-TLB only, 21_translation.md R250), or what the
UTLB and TLB_ASID gave before a change the pipeline may not see yet (21_translation.md R227, R260, R261). -/
def olderLookups (d : Side) (t : Tlb) (a : Word) : List Lookup :=
  ((t :: t.before (t.history.recent ++ t.history.landed)).flatMap (fun u =>
    lookupIn u a :: ((t.heldCopies d).filter (fun x => entryMatches u x.entry a)).map (fun x => .hit x.index x.entry))
  ).filter (fun x => x != lookupIn t a)

/-- The lookup of a virtual address by a side: in the UTLB as it stands, or freely an older translation that has not been
made impossible (21_translation.md R227; 93 U10; log 16). -/
def lookup (d : Side) (s : State) (a : Word) : Lookup :=
  if s.tlbEnable then
    match olderLookups d s.tlb a with
    | [] => lookupIn s.tlb a
    | olds => pick (Config.freeTranslation s.free (2 * a.toNat + if d = .fetch then 1 else 0)) (lookupIn s.tlb a) olds
  else .off

/-! ## What the micro-TLBs may hold (21_translation.md R225, R226; log 16) -/

/-- A copy is kept once. -/
def MicroTlb.insert (m : MicroTlb) (x : TlbCopy) : MicroTlb :=
  if m.copies.contains x then m else { m with copies := x :: m.copies }

/-- The copy a lookup may leave in a micro-TLB. -/
def MicroTlb.note (m : MicroTlb) (x : Lookup) : MicroTlb :=
  match x with
  | .hit i e => m.insert ⟨i, e⟩
  | .off | .miss | .multi => m

/-- Side `d` has translated `a`: its micro-TLB may hold what the UTLB gives it, or gave before a change that may not have
reached the UTLB then. -/
def Tlb.noteAccess (d : Side) (t : Tlb) (a : Word) : Tlb :=
  let found := (t :: t.before t.history.recent).map (fun u => lookupIn u a)
  match d with
  | .fetch => { t with history := { t.history with itlb := found.foldl MicroTlb.note t.history.itlb } }
  | .data => { t with history := { t.history with dtlb := found.foldl MicroTlb.note t.history.dtlb } }

/-! ## Translation and protection -/

/-- `NoTranslation(a)` of a data access (21_translation.md R250). -/
def noTranslation (s : State) (a : Word) : Bool := lookup .data s a == .miss

/-- `MultiMapping(a)` of a data access (21_translation.md R250). -/
def multiMapping (s : State) (a : Word) : Bool := lookup .data s a == .multi

/-- `Prot(e)` (21_translation.md R240): bit 0 execute, bit 1 read, bit 2 write. -/
def prot (s : State) (e : TlbEntry) : BitVec 3 := if s.userMode then e.protUser else e.protSuper

/-- The physical address that entry `e` gives `a` (21_translation.md R251). -/
def entryPhys (e : TlbEntry) (a : Word) : Word :=
  match pageBits e.size with
  | none => a
  | some k => BitVec.ofNat 32 (((e.paddr.toNat >>> (k - 13)) <<< k) + a.toNat % 2 ^ k)

/-- `Translate(a)` of a data access (21_translation.md R251). -/
def translate (s : State) (a : Word) : Word :=
  match lookup .data s a with
  | .hit _ e => entryPhys e a
  | _ => a

/-- A permission bit is missing on the one page that `a` hits. -/
def lacks (s : State) (bit : Nat) (a : Word) : Bool :=
  match lookup .data s a with
  | .hit _ e => !(prot s e).getLsbD bit
  | _ => false

/-- `ReadAccessViolation(a)` (21_translation.md R252). -/
def readViolation (s : State) (a : Word) : Bool := lacks s 1 a

/-- The page that `a` hits is clean (21_translation.md R253). -/
def cleanPage (s : State) (a : Word) : Bool :=
  match lookup .data s a with
  | .hit _ e => !e.dirty
  | _ => false

/-- `WriteAccessViolation(a)` (21_translation.md R253). -/
def writeViolation (s : State) (a : Word) : Bool := lacks s 2 a || cleanPage s a

/-- The access goes through the data cache: translation is on and the page's policy is CACHED
(21_translation.md R222, R238). -/
def cachedAccess (s : State) (a : Word) : Bool :=
  match lookup .data s a with
  | .hit _ e => e.policy == 1#4
  | _ => false

/-! ## TLB exceptions (21_translation.md R248, R257) -/

/-- TLB_EXCAUSE for a page that no single entry names. -/
def excauseNone (cause : BitVec 2) (write spec : Bool) : TlbExcause := ⟨0#8, cause, spec, write, false⟩

/-- TLB_EXCAUSE for the one entry that matches. -/
def excauseHit (i : Nat) (cause : BitVec 2) (write spec : Bool) : TlbExcause :=
  ⟨BitVec.ofNat 8 i, cause, spec, write, true⟩

/-- TLB_EXCAUSE for an access to `a` by a side that raises: the first cause of 21_translation.md R254 and R255 that
applies, `bit` being the permission the access needs. IN_UTLB and INDEX are of the UTLB as it stands. -/
def excauseFor (d : Side) (s : State) (bit : Nat) (write spec : Bool) (a : Word) : TlbExcause :=
  match lookup d s a with
  | .hit _ e =>
    let cause : BitVec 2 := if (prot s e).getLsbD bit then 2#2 else 1#2
    match lookupIn s.tlb a with
    | .hit i _ => excauseHit i cause write spec
    | _ => excauseNone cause write spec
  | .multi => excauseNone 3#2 write spec
  | _ => excauseNone 0#2 write spec

/-- `raise DTLB(a)` by a load (21_translation.md R258). -/
def raiseRead (s : State) (a : Word) : Raise := ⟨.dtlb, a, some (excauseFor .data s 1 false false a)⟩

/-- `raise DTLB(a)` by a dismissible load or `prgadd`. -/
def raiseSpec (s : State) (a : Word) : Raise := ⟨.dtlb, a, some (excauseFor .data s 1 false true a)⟩

/-- `raise DTLB(a)` by a store. -/
def raiseWrite (s : State) (a : Word) : Raise := ⟨.dtlb, a, some (excauseFor .data s 2 true false a)⟩

/-- `raise ITLB(a)` by the fetch of a syllable. -/
def raiseFetch (s : State) (a : Word) : Raise := ⟨.itlb, a, some (excauseFor .fetch s 0 false false a)⟩

/-- `Translate_I(a)` of 21_translation.md R255: the physical address of a syllable, or the exception. -/
def translateFetch (s : State) (a : Word) : Except Raise Word :=
  match lookup .fetch s a with
  | .off => .ok a
  | .miss | .multi => .error (raiseFetch s a)
  | .hit _ e => if (prot s e).getLsbD 0 then .ok (entryPhys e a) else .error (raiseFetch s a)

/-! ## The speculative control unit (21_translation.md R272) -/

/-- Physical address bits [31:13] lie in a region. -/
def ScuRegion.holds (x : ScuRegion) (pa : Word) : Bool :=
  decide (x.base.toNat ≤ pa.toNat >>> 13) && decide (pa.toNat >>> 13 ≤ x.limit.toNat)

/-- `SCUHit(pa)`. -/
def scuHit (s : State) (pa : Word) : Bool := s.scu.toList.any (fun x => x.holds pa)

/-! ## Breakpoints (61_platform_devices.md R654, R655) -/

/-- The comparison of a breakpoint unit on unsigned numbers, the enabled conditions joined by OR; `andMask` is the
masked address of condition 3. -/
def breakMatch (c : BitVec 4) (a lo up andMask : Nat) : Bool :=
  (c.getLsbD 0 && decide (lo ≤ a) && decide (a ≤ up)) ||
  (c.getLsbD 1 && (decide (a < lo) || decide (up < a))) ||
  (c.getLsbD 2 && (decide (a = lo) || decide (a = up))) ||
  (c.getLsbD 3 && decide (andMask = lo))

/-- `DataBreakPoint(a)` (61 R654). -/
def dataBreakPoint (u : BreakUnit) (a : Word) : Bool :=
  breakMatch u.control a.toNat u.lower.toNat u.upper.toNat (a &&& u.upper).toNat

/-- `IsDBreakHit(a)` (20_memory.md R161). -/
def isDBreakHit (s : State) (a : Word) : Bool := s.dbreakEnable && dataBreakPoint s.dbreak a

/-- `InstBreakPoint(BUNDLE_PC)` (61 R655): bits [1:0] take no part. -/
def instBreakPoint (u : BreakUnit) (pc : Word) : Bool :=
  breakMatch u.control (pc.toNat >>> 2) (u.lower.toNat >>> 2) (u.upper.toNat >>> 2) ((pc &&& u.upper).toNat >>> 2)

/-- The bundle at PC hits an instruction breakpoint (60_exceptions.md R525). -/
def isIBreakHit (s : State) : Bool := s.ibreakEnable && instBreakPoint s.ibreak s.pc

end Sys2Proof.Machine
end

