-- ==== Sys2Proof/Machine/Periph.lean ====
section
/-! DEFINITION. The peripheral block on the bus: interrupt controller, timers, DSU registers and debug ROM
(61_platform_devices.md R580 to R605, R641 to R648), and the interrupt request (R590, R596). -/

namespace Sys2Proof.Machine

/-! ## Interrupt lines -/

/-- The interrupt line of a timer (61 R603). -/
def Timer.line (t : Timer) : Bool := t.status && t.intEnable

/-- One bit as a bit vector. -/
def bit1 (b : Bool) : BitVec 1 := if b then 1#1 else 0#1

/-- `LINE[63:0]` (61 R598): the timers on bits 2 to 0. -/
def State.line (s : State) : BitVec 64 :=
  s.intc.lines ++ bit1 s.timers.timer[2].line ++ bit1 s.timers.timer[1].line ++ bit1 s.timers.timer[0].line

/-- INTPENDING (61 R590, R591). -/
def State.intPending (s : State) : BitVec 64 := s.line ||| s.intc.test

/-- The interrupt request `irq` the core samples (61 R590, R596). -/
def State.irq (s : State) : Bool := (s.intPending &&& s.intc.mask != 0#64) || s.intc.irqMaster

/-! ## Interrupt controller and timer registers (61 R592, R601) -/

/-- Half `h` (0 low, 1 high) of a register pair. -/
def half64 (v : BitVec 64) (h : Nat) : Word := v.extractLsb' (32 * h) 32

/-- The pair after half `h` is replaced. -/
def setHalf64 (v : BitVec 64) (h : Nat) (w : Word) : BitVec 64 := if h = 0 then half64 v 1 ++ w else w ++ half64 v 0

/-- A word in half `h` of 64 bits, the other half 0. -/
def inHalf (h : Nat) (w : Word) : BitVec 64 := if h = 0 then 0#32 ++ w else w ++ 0#32

/-- TIMECONTROLi as it reads (61 R603). -/
def Timer.control (t : Timer) : Word := 0#29 ++ bit1 t.status ++ bit1 t.intEnable ++ bit1 t.enable

/-- A timer after a store to TIMECONTROLi (61 R603). -/
def Timer.setControl (t : Timer) (v : Word) : Timer :=
  { t with enable := v.getLsbD 0, intEnable := v.getLsbD 1, status := t.status && !v.getLsbD 2 }

/-- A load of register number `k` (0 TIMECONST, 1 TIMECOUNT, 2 TIMECONTROL) of a timer. -/
def Timer.read (t : Timer) (k : Nat) : Word :=
  match k with
  | 0 => t.const
  | 1 => t.count
  | _ => t.control

/-- A store to register number `k` of a timer (61 R603, R605). -/
def Timer.write (t : Timer) (k : Nat) (v : Word) : Timer :=
  match k with
  | 0 => { t with const := v }
  | 1 => { t with count := v }
  | _ => t.setControl v

/-- A register of the interrupt controller block by offset (61 R592, R601). -/
inductive IntReg where
  | pending (h : Nat)
  | mask (h : Nat)
  | test (h : Nat)
  | testClr (h : Nat)
  | testSet (h : Nat)
  | maskClr (h : Nat)
  | maskSet (h : Nat)
  | timer (i : Fin 3) (k : Nat)
  | divide
  /-- A reserved or unlisted word: reads 0, ignores stores (61 R582). -/
  | none
deriving DecidableEq, Repr

/-- The offsets of Table 33. -/
def intRegs : List (Nat × IntReg) :=
  [(0x00, .pending 0), (0x08, .pending 1), (0x10, .mask 0), (0x18, .mask 1), (0x20, .test 0), (0x28, .test 1),
   (0x30, .testClr 0), (0x38, .testClr 1), (0x40, .testSet 0), (0x48, .testSet 1),
   (0x108, .maskClr 0), (0x110, .maskClr 1), (0x118, .maskSet 0), (0x120, .maskSet 1),
   (0x200, .timer 0 0), (0x208, .timer 0 1), (0x210, .timer 0 2),
   (0x218, .timer 1 0), (0x220, .timer 1 1), (0x228, .timer 1 2),
   (0x230, .timer 2 0), (0x238, .timer 2 1), (0x240, .timer 2 2), (0x248, .divide)]

/-- The register at an offset of the block. -/
def intRegAt (off : Nat) : IntReg := (intRegs.lookup off).getD .none

/-- A word load of the interrupt controller block; the set and clear registers read 0 (61 R582). -/
def intcRead (s : State) (off : Nat) : Word :=
  match intRegAt off with
  | .pending h => half64 s.intPending h
  | .mask h => half64 s.intc.mask h
  | .test h => half64 s.intc.test h
  | .timer i k => s.timers.timer[i].read k
  | .divide => 0#16 ++ s.timers.divide
  | .testClr _ | .testSet _ | .maskClr _ | .maskSet _ | .none => 0#32

/-- A word store to the interrupt controller block (61 R593 to R595, R603 to R605). -/
def intcWrite (s : State) (off : Nat) (v : Word) : State :=
  match intRegAt off with
  | .mask h => { s with intc := { s.intc with mask := setHalf64 s.intc.mask h v } }
  | .test h => { s with intc := { s.intc with test := setHalf64 s.intc.test h v } }
  | .testSet h => { s with intc := { s.intc with test := s.intc.test ||| inHalf h v } }
  | .testClr h => { s with intc := { s.intc with test := s.intc.test &&& ~~~inHalf h v } }
  | .maskSet h => { s with intc := { s.intc with mask := s.intc.mask ||| inHalf h v } }
  | .maskClr h => { s with intc := { s.intc with mask := s.intc.mask &&& ~~~inHalf h v } }
  | .timer i k =>
    { s with timers := { s.timers with timer := s.timers.timer.set i (s.timers.timer[i].write k v) } }
  | .divide => { s with timers := { s.timers with divide := v.setWidth 16 } }
  | .pending _ | .none => s

/-! ## DSU registers (61 R641 to R645) -/

/-- DSR1 as it reads (61 R643). -/
def dsr1 (s : State) : Word :=
  s.dsu.swFlags ++ 0#7 ++ bit1 s.dsu.triggerEnable ++ bit1 s.dsu.triggerOut ++ bit1 s.dsu.triggerIn ++
  bit1 s.dsu.outputPending ++ bit1 s.dsu.eventAckPending ++ bit1 s.cfg.bigEndian ++ bit1 s.dsu.userWrite ++
  bit1 s.dsu.supervisorWrite ++ bit1 s.debugMode

/-- DSRn, n at least 2, as stored. -/
def Dsu.reg (d : Dsu) (n : Fin 32) : Word := (d.regs.toList.getD (n.val - 2) 0#32)

/-- A load of DSRn (61 R641 to R643). -/
def dsrRead (s : State) (n : Fin 32) : Word :=
  match n.val with
  | 0 => s.cfg.version
  | 1 => dsr1 s
  | _ => s.dsu.reg n

/-- The DSU after a store to DSR1 (61 R643): bit 4 only in the JTAG variant. DESIGN CHOICE (log 28): a store of bit 4 set
while OUTPUT_PENDING is set is stored like any other, though Table 66 of R645 has no row with both bits set. -/
def Dsu.writeStatus (d : Dsu) (variant : DebugVariant) (v : Word) : Dsu :=
  { d with
    supervisorWrite := v.getLsbD 1
    userWrite := v.getLsbD 2
    eventAckPending := if variant = .jtag then v.getLsbD 4 else d.eventAckPending
    triggerOut := v.getLsbD 7
    triggerEnable := v.getLsbD 8
    swFlags := v.extractLsb' 16 16 }

/-- The DSU after a store to DSRn, n at least 2. -/
def Dsu.setReg (d : Dsu) (n : Fin 32) (v : Word) : Dsu := { d with regs := d.regs.setIfInBounds (n.val - 2) v }

/-- The DSU after a store to DSR2 (61 R645): TAPLINK keeps 8 bits and latches them for sending unless a byte is in
flight; JTAG keeps the word and asks for an event unless one is outstanding. -/
def Dsu.writeOutput (d : Dsu) (variant : DebugVariant) (v : Word) : Dsu :=
  match variant with
  | .taplink =>
    if d.outputPending then d.setReg 2 (v &&& 0xFF#32)
    else { d.setReg 2 (v &&& 0xFF#32) with outputPending := true, sending := v &&& 0xFF#32 }
  | .jtag =>
    { d.setReg 2 v with
      outputPending := d.outputPending || !d.eventAckPending
      sending := if d.eventAckPending then d.sending else v }

/-- A write of DSRn that is not gated: by the host, or by a store that R644 admits. DESIGN CHOICE (log 28): a host's poke
of DSR2 does what a store of the processor does (61 R645, R657). -/
def dsrWrite (s : State) (n : Fin 32) (v : Word) : State :=
  match n.val with
  | 0 => s
  | 1 => { s with dsu := s.dsu.writeStatus s.cfg.debugVariant v }
  | 2 => { s with dsu := s.dsu.writeOutput s.cfg.debugVariant v }
  | _ => { s with dsu := s.dsu.setReg n v }

/-- STBus writes to the DSU registers are enabled (61 R644). -/
def dsrWriteEnabled (s : State) : Bool := if s.userMode then s.dsu.userWrite else s.dsu.supervisorWrite

/-- The DSU register at an offset of its block, if one is exactly there (61 R641). -/
def dsrAt (off : Nat) : Option (Fin 32) :=
  if h : off % 8 = 0 ∧ off / 8 < 32 then some ⟨off / 8, h.2⟩ else none

/-- A word load of the DSU block. -/
def dsuRead (s : State) (off : Nat) : Word :=
  match dsrAt off with
  | some n => dsrRead s n
  | none => 0#32

/-- A word store of the core to the DSU block (61 R644). -/
def dsuWrite (s : State) (off : Nat) (v : Word) : State :=
  match dsrAt off with
  | some n => if dsrWriteEnabled s then dsrWrite s n v else s
  | none => s

/-- Word `i` of the debug ROM (61 R648; log 21). -/
def romWord (c : Cfg) (i : Nat) : Word := c.debugRom.getD i (Config.freeRomWord i)

/-! ## Windows of the block (61 R580, 20_memory.md R166) -/

/-- Where a physical address leads. -/
inductive Window where
  | intc (off : Nat)
  | dsu (off : Nat)
  | rom (off : Nat)
  | memory
deriving DecidableEq, Repr

/-- The window of a physical address. DESIGN CHOICE (log 27): the addresses of the peripheral block between and after the
three windows are plain memory, as those outside the block are (92_eei_decisions.md D36). -/
def windowOf (c : Cfg) (pa : Word) : Window :=
  let i := (pa - (c.peripheralBase + c.intcrBase)).toNat
  let d := (pa - (c.peripheralBase + c.dsuBase)).toNat
  let r := (pa - (c.peripheralBase + 0x4000#32)).toNat
  if i < 0x250 then .intc i else if d < 0x100 then .dsu d else if r < 0x400 then .rom r else .memory

/-! ## Timer ticks (61 R602, R604) -/

/-- A timer after a tick. -/
def Timer.tick (t : Timer) : Timer :=
  if t.enable then
    if t.count = 0#32 then { t with count := t.const, status := true } else { t with count := t.count - 1#32 }
  else t

/-- The timers after one bus clock cycle. -/
def Timers.busClock (t : Timers) : Timers :=
  if t.presc = 0#16 then { t with presc := t.divide, timer := #v[t.timer[0].tick, t.timer[1].tick, t.timer[2].tick] }
  else { t with presc := t.presc - 1#16 }

end Sys2Proof.Machine
end

