-- ==== Sys2Proof/Machine/Cregs.lean ====
section
/-! DEFINITION. The control register block: its map and access rights (10_state.md R53 to R56, 20_memory.md R156 to
R160), what a load of each register returns and does, and what a store changes (10_state.md R57 to R71,
21_translation.md R236 to R248, R270, R271, 61_platform_devices.md R622 to R630, R650 to R653, R670 to R673). -/

namespace Sys2Proof.Machine

/-- `IsCRegSpace(a)` (20_memory.md R147). -/
def isCRegSpace (a : Word) : Bool := a.extractLsb' 16 16 == 0xFFFF#16

/-- The map of 10_state.md R55 without the SDI and SCU registers, by offset from 0xFFFF0000. -/
def cregTableCore : List (Nat × CReg) :=
  [(0xFFF8, .psw), (0xFFF0, .savedPsw), (0xFFE8, .savedPc), (0xFFE0, .handlerPc), (0xFFD8, .excause),
   (0xFFD0, .exaddress), (0xFFC8, .version), (0xFFC0, .savedSavedPsw), (0xFFB8, .savedSavedPc),
   (0xFFB0, .peripheralBase), (0xFFA8, .scratch 0), (0xFFA0, .scratch 1), (0xFF98, .scratch 2), (0xFF90, .scratch 3),
   (0xFF88, .excauseno), (0xFF80, .tlbIndex), (0xFF78, .tlbEntry0), (0xFF70, .tlbEntry1), (0xFF68, .tlbEntry2),
   (0xFF60, .tlbEntry3), (0xFF58, .tlbExcause), (0xFF50, .tlbControl), (0xFF48, .tlbReplace), (0xFF40, .tlbAsid),
   (0xFF38, .reserved), (0xFF30, .reserved), (0xFF28, .reserved), (0xFF20, .reserved), (0xFF18, .reserved),
   (0xFF10, .reserved), (0xFF08, .reserved), (0xFF00, .reserved)]

/-- The map of 10_state.md R55, from DBREAK_LOWER to PM_PCLK. -/
def cregTableDebug : List (Nat × CReg) :=
  [(0xFE80, .dbreakLower), (0xFE78, .dbreakUpper), (0xFE70, .dbreakControl), (0xFE40, .reserved), (0xFE38, .reserved),
   (0xFE30, .reserved), (0xFE28, .reserved), (0xFE20, .reserved), (0xFE18, .reserved), (0xFE10, .reserved),
   (0xFE08, .reserved), (0xFE00, .state1), (0xFDD0, .ibreakLower), (0xFDC8, .ibreakUpper), (0xFDC0, .ibreakControl),
   (0xF800, .pmCr), (0xF808, .pmCnt 0), (0xF810, .pmCnt 1), (0xF818, .pmCnt 2), (0xF820, .pmCnt 3), (0xF828, .pmPclk)]

/-- The map of 10_state.md R55, SDI and SCU registers. -/
def cregTableSdi : List (Nat × CReg) :=
  [(0xE000, .sdiData 0), (0xE008, .sdiReady 0), (0xE010, .sdiControl 0), (0xE018, .sdiCount 0), (0xE020, .sdiTimeout 0),
   (0xE400, .sdiData 1), (0xE408, .sdiReady 1), (0xE410, .sdiControl 1), (0xE418, .sdiCount 1), (0xE420, .sdiTimeout 1),
   (0xE800, .sdiData 2), (0xE808, .sdiReady 2), (0xE810, .sdiControl 2), (0xE818, .sdiCount 2), (0xE820, .sdiTimeout 2),
   (0xEC00, .sdiData 3), (0xEC08, .sdiReady 3), (0xEC10, .sdiControl 3), (0xEC18, .sdiCount 3), (0xEC20, .sdiTimeout 3),
   (0xD000, .scuBase 0), (0xD008, .scuLimit 0), (0xD010, .scuBase 1), (0xD018, .scuLimit 1),
   (0xD020, .scuBase 2), (0xD028, .scuLimit 2), (0xD030, .scuBase 3), (0xD038, .scuLimit 3)]

/-- The whole map of 10_state.md R55. -/
def cregTable : List (Nat × CReg) := cregTableCore ++ cregTableDebug ++ cregTableSdi

/-- `CRegIndex(a)`: the register at exactly the address `a`; none is `UndefinedCReg(a)` (20_memory.md R157). -/
def cregAt (a : Word) : Option CReg := if isCRegSpace a then cregTable.lookup (a.toNat % 0x10000) else none

/-! ## Access rights (10_state.md R54, R55) -/

/-- The access codes of Table 26, one per mode; CF and CFRO are resolved by the PRIV field. -/
inductive AccessCode where
  | na
  | ro
  | rw
deriving DecidableEq, Repr

/-- An SDI port's DATA and READY are open to user mode: PRIV = 1 (61 R630). -/
def sdiUserOpen (s : State) (port : Fin 4) : Bool := s.sdi[port].priv == 1#2

/-- The access code of a register in supervisor mode. -/
def supervisorAccess (r : CReg) : AccessCode :=
  match r with
  | .psw | .excause | .version | .peripheralBase | .reserved | .sdiReady _ => .ro
  | _ => .rw

/-- The access code of a register in user mode: NA but for SDI DATA and READY (60_exceptions.md R561, R563). -/
def userAccess (s : State) (r : CReg) : AccessCode :=
  match r with
  | .sdiData p => if sdiUserOpen s p then .rw else .na
  | .sdiReady p => if sdiUserOpen s p then .ro else .na
  | _ => .na

/-- The access code of a register in the current mode. -/
def accessCode (s : State) (r : CReg) : AccessCode := if s.userMode then userAccess s r else supervisorAccess r

/-- `CRegReadCheck(a)` and `CRegWriteCheck(a)` (20_memory.md R158, R159): both are violated by NA only, since no
register has the code ROF and a store to a read-only register is ignored. -/
def cregCheck (s : State) (a : Word) : Except Raise CReg :=
  match cregAt a with
  | none => .error (.at .cregNoMapping a)
  | some r => if accessCode s r = .na then .error (.at .cregAccessViolation a) else .ok r

/-! ## SDI ports (61 R622 to R631) -/

/-- The channel is in reset: bit 2 or bit 3 of SDIi_CONTROL is 1 (61 R631). -/
def SdiPort.inReset (p : SdiPort) : Bool := p.resetIn || p.resetOut

/-- SDIi_CONTROL as it reads (61 R624). -/
def SdiPort.control (c : SdiCfg) (p : SdiPort) : Word :=
  0#24 ++ bit1 p.timeoutDisable ++ bit1 c.isMaster ++ 0#1 ++ bit1 c.isInput ++ bit1 p.resetOut ++ bit1 p.resetIn ++
  p.priv

/-- A port after a store to SDIi_CONTROL (61 R624); a master's request that goes from 0 to 1 empties the channel
(61 R631). -/
def SdiPort.setControl (c : SdiCfg) (p : SdiPort) (v : Word) : SdiPort :=
  { p with
    priv := v.extractLsb' 0 2
    resetOut := v.getLsbD 3
    timeoutDisable := v.getLsbD 7
    chan := if c.isMaster && v.getLsbD 3 && !p.resetOut then [] else p.chan }

/-- A port when its RESETINPUT takes the value `v`: a slave's request that goes from 0 to 1 empties the channel. -/
def SdiPort.setResetIn (c : SdiCfg) (p : SdiPort) (v : Bool) : SdiPort :=
  { p with resetIn := v, chan := if !c.isMaster && v && !p.resetIn then [] else p.chan }

/-- How many accesses of SDIi_DATA would not stall (61 R623). -/
def SdiPort.available (c : SdiCfg) (p : SdiPort) : Nat :=
  if c.isInput then p.chan.length else c.depth - p.chan.length

/-- SDIi_READY: at most the number available, bounded by the implementation's freely (61 R623; log 13); anything at all
during a channel reset (61 R631; log 12). -/
def sdiReadyValue (s : State) (i : Fin 4) : Word :=
  if s.sdi[i].inReset then Config.freeSdiValue s.free
  else BitVec.ofNat 32 (min (Config.freeSdiReady s.free i.val) (s.sdi[i].available s.cfg.sdi[i]))

/-- State with port `i` replaced. -/
def State.setSdi (s : State) (i : Fin 4) (p : SdiPort) : State := { s with sdi := s.sdi.set i p }

/-- The address of SDIi_DATA (61 R628). -/
def sdiDataAddress (i : Fin 4) : Word := BitVec.ofNat 32 (0xFFFFE000 + 0x400 * i.val)

/-- One turn of the stall loop of 61 R627 on port `i`, after the tests of ready, debug interrupt, bus error and
interrupt: time-out, or one cycle of waiting. -/
def sdiStall (i : Fin 4) (s : State) : Host.Outcome State Fault Refusal :=
  let p := s.sdi[i]
  if p.timeoutDisable then .next { s with signal := .stalled, nextPc := s.pc }
  else if p.timeout = 0#32 then raised (.at .sdiTimeout (sdiDataAddress i)) s
  else .next { (s.setSdi i { p with timeout := p.timeout - 1#32 }) with signal := .stalled, nextPc := s.pc }

/-- A successful DATA access of port `i` leaves these items and reloads the time-out (61 R622). -/
def sdiMoved (i : Fin 4) (items : List Word) (s : State) : State :=
  s.setSdi i { s.sdi[i] with chan := items, timeout := s.sdi[i].count }

/-- A load of SDIi_DATA into `dest` (61 R622, R627, R631). -/
def sdiDataLoad (i : Fin 4) (dest : GReg) (s : State) : Host.Outcome State Fault Refusal :=
  let p := s.sdi[i]
  let input := s.cfg.sdi[i].isInput
  if p.inReset then
    if Config.freeSdiWaits s.free then sdiStall i s
    else
      let t := if input && Config.freeSdiMoves s.free then sdiMoved i p.chan.tail s else s
      .next (t.writeR dest (Config.freeSdiValue s.free))
  else if input then
    match p.chan with
    | [] => sdiStall i s
    | v :: rest => .next ((sdiMoved i rest s).writeR dest v)
  else .next (s.writeR dest 0#32)

/-- A store of `v` to SDIi_DATA (61 R622, R627, R631). -/
def sdiDataStore (i : Fin 4) (v : Word) (s : State) : Host.Outcome State Fault Refusal :=
  let p := s.sdi[i]
  let input := s.cfg.sdi[i].isInput
  let full := decide (s.cfg.sdi[i].depth ≤ p.chan.length)
  if p.inReset then
    if Config.freeSdiWaits s.free then sdiStall i s
    else if !input && !full && Config.freeSdiMoves s.free then .next (sdiMoved i (p.chan ++ [v]) s)
    else .next s
  else if input then .next s
  else if full then sdiStall i s
  else .next (sdiMoved i (p.chan ++ [v]) s)

/-! ## Values of the registers -/

/-- `LfsrNext(x)` (21_translation.md R245; log 19). -/
def lfsrNext (x : BitVec 16) : BitVec 16 :=
  x.extractLsb' 0 15 ++ bit1 (x.getLsbD 15 ^^ x.getLsbD 14 ^^ x.getLsbD 12 ^^ x.getLsbD 3)

/-- The UTLB entry TLB_INDEX selects (21_translation.md R236). -/
def Tlb.current (t : Tlb) : TlbEntry := t.entries.toList.getD t.index.toNat TlbEntry.zero

/-- The UTLB with the selected entry replaced; what it was is recorded (log 16). -/
def Tlb.setCurrent (t : Tlb) (e : TlbEntry) : Tlb :=
  if t.current = e then t
  else
    { t.setEntry t.index.toNat e with
      history := { t.history with recent := .entry ⟨t.index.toNat, t.current⟩ :: t.history.recent } }

/-- A micro-TLB flushed: it holds nothing; the pipeline and the instruction buffer still may (21_translation.md R260). -/
def MicroTlb.flush (m : MicroTlb) : MicroTlb := ⟨[], m.copies ++ m.pipe⟩

/-- The ITLB and the DTLB are flushed, each if asked for, after all outstanding writes to the UTLB have completed
(21_translation.md R246; log 16). -/
def Tlb.flush (t : Tlb) (i d : Bool) : Tlb :=
  if i || d then
    { t with history :=
      { itlb := if i then t.history.itlb.flush else t.history.itlb
        dtlb := if d then t.history.dtlb.flush else t.history.dtlb
        recent := []
        landed := t.history.recent ++ t.history.landed } }
  else t

/-- A store to TLB_ASID flushes both and changes the address space, which the bundles in the pipeline may not see yet: eight
after this one (21_translation.md R247, R261; 93 U10; log 16). -/
def Tlb.setAsid (t : Tlb) (v : BitVec 8) : Tlb :=
  let u := t.flush true true
  if v = t.asid then u
  else { u with asid := v, history := { u.history with landed := .asid t.asid 9 :: u.history.landed } }

/-- TLB_ENTRY0 (21_translation.md R237). -/
def TlbEntry.word0 (e : TlbEntry) : Word :=
  0#7 ++ e.partition ++ e.size ++ e.policy ++ bit1 e.dirty ++ e.protUser ++ e.protSuper ++ bit1 e.shared ++ e.asid

/-- An entry after a store to TLB_ENTRY0. -/
def TlbEntry.setWord0 (e : TlbEntry) (v : Word) : TlbEntry :=
  { e with
    asid := v.extractLsb' 0 8
    shared := v.getLsbD 8
    protSuper := v.extractLsb' 9 3
    protUser := v.extractLsb' 12 3
    dirty := v.getLsbD 15
    policy := v.extractLsb' 16 4
    size := v.extractLsb' 20 3
    partition := v.extractLsb' 23 2 }

/-- TLB_EXCAUSE as it reads (21_translation.md R248). -/
def TlbExcause.word (e : TlbExcause) : Word :=
  0#11 ++ bit1 e.inUtlb ++ bit1 e.write ++ bit1 e.spec ++ e.cause ++ 0#8 ++ e.index

/-- TLB_EXCAUSE after a store. -/
def TlbExcause.ofWord (v : Word) : TlbExcause :=
  ⟨v.extractLsb' 0 8, v.extractLsb' 16 2, v.getLsbD 18, v.getLsbD 19, v.getLsbD 20⟩

/-- PM_CR as it reads (61 R670). -/
def Pm.cr (p : Pm) : Word :=
  p.events[3] ++ p.events[2] ++ p.events[1] ++ p.events[0] ++ 0#9 ++ bit1 p.idle ++ 0#1 ++ bit1 p.enb

/-- The performance monitor after a store to PM_CR (61 R670). -/
def Pm.writeCr (p : Pm) (v : Word) : Pm :=
  { enb := v.getLsbD 0
    idle := p.idle && !v.getLsbD 2
    events := #v[v.extractLsb' 12 5, v.extractLsb' 17 5, v.extractLsb' 22 5, v.extractLsb' 27 5]
    cnt := if v.getLsbD 1 then Vector.replicate 4 0#32 else p.cnt
    pclk := if v.getLsbD 1 then 0#32 else p.pclk }

/-- What a load of a register returns, SDIi_DATA apart (a load of it acts on the port). -/
def cregValue (s : State) (r : CReg) : Word :=
  match r with
  | .psw => s.psw
  | .savedPsw => s.savedPsw.value
  | .savedPc => s.savedPc.value
  | .handlerPc => s.handlerPc
  | .excause => 1#32 <<< s.excauseno.toNat
  | .exaddress => s.exaddress
  | .version => s.cfg.version
  | .savedSavedPsw => s.savedSavedPsw.value
  | .savedSavedPc => s.savedSavedPc.value
  | .peripheralBase => s.cfg.peripheralBase
  | .scratch n => s.scratch[n]
  | .excauseno => 0#27 ++ s.excauseno
  | .tlbIndex => 0#24 ++ s.tlb.index
  | .tlbEntry0 => s.tlb.current.word0
  | .tlbEntry1 => 0#13 ++ s.tlb.current.vaddr
  | .tlbEntry2 => 0#13 ++ s.tlb.current.paddr
  | .tlbEntry3 => 0#32
  | .tlbExcause => s.tlb.excause.word
  | .tlbControl => 0#32
  | .tlbReplace => 0#8 ++ s.tlb.limit ++ s.tlb.lfsr
  | .tlbAsid => 0#24 ++ s.tlb.asid
  | .reserved => 0#32
  | .dbreakLower => s.dbreak.lower
  | .dbreakUpper => s.dbreak.upper
  | .dbreakControl => 0#28 ++ s.dbreak.control
  | .state1 => 0#30 ++ s.partition
  | .ibreakLower => s.ibreak.lower
  | .ibreakUpper => s.ibreak.upper
  | .ibreakControl => 0#28 ++ s.ibreak.control
  | .pmCr => s.pm.cr
  | .pmCnt n => s.pm.cnt[n]
  | .pmPclk => s.pm.pclk
  | .sdiData _ => 0#32
  | .sdiReady i => sdiReadyValue s i
  | .sdiControl i => s.sdi[i].control s.cfg.sdi[i]
  | .sdiCount i => s.sdi[i].count
  | .sdiTimeout i => s.sdi[i].timeout
  | .scuBase n => 0#13 ++ s.scu[n].base
  | .scuLimit n => 0#13 ++ s.scu[n].limit

/-- What a load of a register changes besides its destination: TLB_REPLACE clocks its LFSR (20_memory.md R164). -/
def cregReadEffect (s : State) (r : CReg) : State :=
  match r with
  | .tlbReplace => { s with tlb := { s.tlb with lfsr := lfsrNext s.tlb.lfsr } }
  | _ => s

/-- What a store changes in a register, SDIi_DATA apart. Registers with the access code RO ignore it. -/
def cregUpdate (s : State) (r : CReg) (v : Word) : State :=
  match r with
  | .savedPsw => { s with savedPsw := s.savedPsw.store v }
  | .savedPc => { s with savedPc := s.savedPc.store v }
  | .savedSavedPsw => { s with savedSavedPsw := s.savedSavedPsw.store v }
  | .savedSavedPc => { s with savedSavedPc := s.savedSavedPc.store v }
  | .handlerPc => { s with handlerPc := v }
  | .exaddress => { s with exaddress := v }
  | .scratch n => { s with scratch := s.scratch.set n v }
  | .excauseno => { s with excauseno := v.extractLsb' 0 5 }
  | .tlbIndex =>
    if (v.extractLsb' 0 8).toNat ≤ 63 then { s with tlb := { s.tlb with index := v.extractLsb' 0 8 } } else s
  | .tlbEntry0 => { s with tlb := s.tlb.setCurrent (s.tlb.current.setWord0 v) }
  | .tlbEntry1 => { s with tlb := s.tlb.setCurrent { s.tlb.current with vaddr := v.extractLsb' 0 19 } }
  | .tlbEntry2 => { s with tlb := s.tlb.setCurrent { s.tlb.current with paddr := v.extractLsb' 0 19 } }
  | .tlbExcause => { s with tlb := { s.tlb with excause := TlbExcause.ofWord v } }
  | .tlbReplace => { s with tlb := { s.tlb with lfsr := v.extractLsb' 0 16, limit := v.extractLsb' 16 8 } }
  | .tlbAsid => { s with tlb := s.tlb.setAsid (v.extractLsb' 0 8) }
  | .tlbControl => { s with tlb := s.tlb.flush (v.getLsbD 0) (v.getLsbD 1) }
  | .dbreakLower => { s with dbreak := { s.dbreak with lower := v } }
  | .dbreakUpper => { s with dbreak := { s.dbreak with upper := v } }
  | .dbreakControl => { s with dbreak := { s.dbreak with control := v.extractLsb' 0 4 } }
  | .state1 => { s with partition := v.extractLsb' 0 2 }
  | .ibreakLower => { s with ibreak := { s.ibreak with lower := v } }
  | .ibreakUpper => { s with ibreak := { s.ibreak with upper := v } }
  | .ibreakControl => { s with ibreak := { s.ibreak with control := v.extractLsb' 0 4 } }
  | .pmCr => { s with pm := s.pm.writeCr v }
  | .pmCnt n => { s with pm := { s.pm with cnt := s.pm.cnt.set n v } }
  | .pmPclk => { s with pm := { s.pm with pclk := v } }
  | .sdiControl i => s.setSdi i (s.sdi[i].setControl s.cfg.sdi[i] v)
  | .sdiCount i => s.setSdi i { s.sdi[i] with count := v }
  | .sdiTimeout i => s.setSdi i { s.sdi[i] with timeout := v }
  | .scuBase n => { s with scu := s.scu.set n { s.scu[n] with base := v.extractLsb' 0 19 } }
  | .scuLimit n => { s with scu := s.scu.set n { s.scu[n] with limit := v.extractLsb' 0 19 } }
  | .psw | .excause | .version | .peripheralBase | .reserved | .sdiReady _ | .tlbEntry3 | .sdiData _ => s

/-- A word load of a control register into `dest` (20_memory.md R158, 44_load_store_cache.md R435). -/
def cregLoad (a : Word) (dest : GReg) (s : State) : Host.Outcome State Fault Refusal :=
  match cregCheck s a with
  | .error e => raised e s
  | .ok (.sdiData i) => sdiDataLoad i dest s
  | .ok r => .next ((cregReadEffect s r).writeR dest (cregValue s r))

/-- A word store to a control register (20_memory.md R159, 44_load_store_cache.md R445). -/
def cregStore (a v : Word) (s : State) : Host.Outcome State Fault Refusal :=
  match cregCheck s a with
  | .error e => raised e s
  | .ok (.sdiData i) => sdiDataStore i v s
  | .ok r => .next { cregUpdate s r v with cregStored := some r }

end Sys2Proof.Machine
end

