-- ==== Sys2Proof/Machine/Access.lean ====
section
/-! DEFINITION. Data accesses: the check functions of 20_memory.md R148 to R155, R182, the physical access with its bus
errors (60_exceptions.md R523, R524), and the record of stored words that instruction fetch may not see yet
(20_memory.md R189; log 15). -/

namespace Sys2Proof.Machine

/-! ## Checks -/

/-- `Misaligned_n(a)` (20_memory.md R148). -/
def misaligned (w : Width) (a : Word) : Bool := a.toNat % w.bytes != 0

/-- `ReadCheck_n(a)` (20_memory.md R150). -/
def readCheck (w : Width) (a : Word) (s : State) : Option Raise :=
  if misaligned w a then some (.at .misalignedTrap a)
  else if noTranslation s a || multiMapping s a || readViolation s a then some (raiseRead s a)
  else none

/-- `DisReadCheck_n(a)` (20_memory.md R151). -/
def disReadCheck (w : Width) (a : Word) (s : State) : Option Raise :=
  if misaligned w a && s.specMalignTrap then some (.at .misalignedTrap a)
  else if multiMapping s a || (s.tlbDynamic && noTranslation s a) then some (raiseSpec s a)
  else none

/-- `WriteCheck_n(a)` (20_memory.md R154). -/
def writeCheck (w : Width) (a : Word) (s : State) : Option Raise :=
  if misaligned w a then some (.at .misalignedTrap a)
  else if noTranslation s a || multiMapping s a || writeViolation s a then some (raiseWrite s a)
  else none

/-- `PurgeAddressCheck(ea)` (20_memory.md R182). -/
def purgeCheck (a : Word) (s : State) : Option Raise :=
  if multiMapping s a || (s.tlbDynamic && noTranslation s a) then some (raiseSpec s a) else none

/-! ## Bus errors of the external memory -/

/-- `pa` lies between two addresses. -/
def within (lo hi pa : Word) : Bool := decide (lo.toNat ≤ pa.toNat) && decide (pa.toNat ≤ hi.toNat)

/-- `BusReadError(pa)` of external memory (20_memory.md R152). -/
def busReadError (c : Cfg) (pa : Word) : Bool := c.busErrors.any (fun x => x.reads && within x.lo x.hi pa)

/-- A bus write to external memory at `pa` fails (20_memory.md R190). -/
def busWriteError (c : Cfg) (pa : Word) : Bool := c.busErrors.any (fun x => x.writes && within x.lo x.hi pa)

/-- External memory at `pa` is ROM (00_scope.md R9). -/
def romAt (c : Cfg) (pa : Word) : Bool := c.readOnly.any (fun x => within x.lo x.hi pa)

/-- A data read of the bus: none is a bus error. Peripheral registers and the debug ROM answer uncached word reads
only (61 R583; log 23). -/
def busRead (s : State) (w : Width) (cached : Bool) (pa : Word) : Option Word :=
  match windowOf s.cfg pa with
  | .intc off => if w = .word ∧ cached = false then some (intcRead s off) else none
  | .dsu off => if w = .word ∧ cached = false then some (dsuRead s off) else none
  | .rom off => if w = .word ∧ cached = false then some (romWord s.cfg (off / 4)) else none
  | .memory => if busReadError s.cfg pa then none else some (memLoad s.cfg.bigEndian s.mem w pa)

/-! ## Stored words and instruction fetch -/

/-- The word address of a physical address. -/
def wordAddr (pa : Word) : Word := pa &&& 0xFFFFFFFC#32

/-- The word that holds the physical address `pa`. -/
def wordAt (s : State) (pa : Word) : Word := memLoad s.cfg.bigEndian s.mem .word (wordAddr pa)

/-- The bytes of its word that an aligned access covers, bit `i` for the byte at word address + `i`. -/
def bytesOf (w : Width) (pa : Word) : BitVec 4 := BitVec.ofNat 4 (2 ^ w.bytes - 1) <<< (pa.toNat % 4)

/-- The record of a store at `pa` to the word that held `old`. -/
def staleRecord (old : Word) (w : Width) (cached : Bool) (pa : Word) : StaleWord :=
  ⟨wordAddr pa, old, if cached then .cached else .posted, 0#4, 0#4, bytesOf w pa⟩

/-- Writing memory records the older contents of the word (20_memory.md R189, R190). -/
def storeMem (s : State) (w : Width) (cached : Bool) (pa v : Word) : State :=
  { s with
    mem := memStore s.cfg.bigEndian s.mem w pa v
    stale := staleRecord (wordAt s pa) w cached pa :: s.stale }

/-- The data cache line (32 bytes) of a word is purged (20_memory.md R182). -/
def StaleWord.purgeLine (x : StaleWord) (pa : Word) : StaleWord :=
  if x.stage = .cached ∧ x.addr.toNat / 32 = pa.toNat / 32 then { x with stage := .posted } else x

/-- The data cache set `ea[12:5]` of a word is purged (20_memory.md R183). -/
def StaleWord.purgeSet (x : StaleWord) (ea : Word) : StaleWord :=
  if x.stage = .cached ∧ x.addr.extractLsb' 5 8 = ea.extractLsb' 5 8 then { x with stage := .posted } else x

/-- An uncached load finds the line in neither the data cache nor the write buffer afterwards, and reads memory when its
writes have got there (20_memory.md R178, R179, R191). -/
def StaleWord.readLine (x : StaleWord) (pa : Word) : StaleWord :=
  if x.addr.toNat / 32 = pa.toNat / 32 then { x with stage := .inMemory } else x

/-- `sync`: posted writes have reached memory (20_memory.md R184). -/
def StaleWord.sync (x : StaleWord) : StaleWord := if x.stage = .posted then { x with stage := .inMemory } else x

/-- `prgins`: the whole instruction cache is invalidated (20_memory.md R186). -/
def StaleWord.invalidateAll (x : StaleWord) : StaleWord :=
  if x.stage = .inMemory then { x with invalidated := 15#4 } else x

/-- The bit of a quadrant. -/
def quadrantBit (q : BitVec 2) : BitVec 4 := 1#4 <<< q.toNat

/-- The line of the word in a quadrant of the instruction cache is invalidated: what is fetched into it again is what
memory holds. -/
def StaleWord.invalidateIn (x : StaleWord) (q : BitVec 2) : StaleWord :=
  if x.stage = .inMemory then { x with invalidated := x.invalidated ||| quadrantBit q } else x

/-- `prginspg`: quadrant `ea[1:0]` of the physical page `ea[31:13]` is invalidated (20_memory.md R186). -/
def StaleWord.invalidatePage (x : StaleWord) (ea : Word) : StaleWord :=
  if x.addr.extractLsb' 13 19 = ea.extractLsb' 13 19 then x.invalidateIn (ea.extractLsb' 0 2) else x

/-- A bus error of the fetch of virtual address `va`, physical address `pa`, invalidates the line of 64 bytes that it was to
fill (20_memory.md R170, R192, 60_exceptions.md R522). -/
def StaleWord.invalidateLine (x : StaleWord) (va pa : Word) : StaleWord :=
  if x.addr.toNat / 64 = pa.toNat / 64 then x.invalidateIn (va.extractLsb' 13 2) else x

/-- `syncins`: invalidations are effective for the next bundle (20_memory.md R187, R189). -/
def StaleWord.syncins (x : StaleWord) : StaleWord := { x with clean := x.clean ||| x.invalidated }

/-- The records that still matter. -/
def staleKept (xs : List StaleWord) : List StaleWord := xs.filter (fun x => x.clean != 15#4)

/-- The instruction buffer is invalidated: what it fetched before an invalidation of the instruction cache is gone
(20_memory.md R171, R187). -/
def clearBuffer (s : State) : State := { s with stale := staleKept (s.stale.map StaleWord.syncins) }

/-- The pipeline and the instruction buffer are emptied by a change of PC (60_exceptions.md R517, 70_reset_and_hazards.md
R735; log 15, log 16). -/
def emptyPipeline (s : State) : State := clearBuffer { s with tlb := s.tlb.settle }

/-- A record after the instruction buffer is invalidated in the bundle before which it was `old`: only what was
invalidated then is clean. -/
def StaleWord.cleanOf (x old : StaleWord) : StaleWord := { x with clean := x.clean ||| old.invalidated }

/-- The instruction buffer is invalidated in a bundle that started with these records, each still in its place: what the
bundle itself invalidates may have been fetched by then. -/
def clearBufferOf (olds : List StaleWord) (s : State) : State :=
  { s with stale := staleKept (List.zipWith StaleWord.cleanOf s.stale olds) }

/-- The older values a fetch of the syllable at virtual address `va`, physical address `pa`, may return. -/
def staleValues (s : State) (va pa : Word) : List Word :=
  (s.stale.filter (fun x => x.addr == pa && (x.clean &&& quadrantBit (va.extractLsb' 13 2)) == 0#4)).map StaleWord.old

/-! ## Writes that fail later (20_memory.md R190, 93 U6; log 11) -/

/-- All ones in the bytes of a word that `m` selects by their address, in the byte order of the core. -/
def byteMask (big : Bool) (m : BitVec 4) : Word :=
  let f (i : Nat) : Byte := if m.getLsbD i then 0xFF#8 else 0#8
  if big then f 0 ++ f 1 ++ f 2 ++ f 3 else f 3 ++ f 2 ++ f 1 ++ f 0

/-- The word `w` with the bytes that `m` selects taken from `old`. -/
def putBytes (big : Bool) (m : BitVec 4) (old w : Word) : Word :=
  (old &&& byteMask big m) ||| (w &&& ~~~byteMask big m)

/-- What the records `ys` of the stores after the store `x`, the latest first, say when `x` did not happen: up to the next
store of a byte, the byte is as before `x`. With them, the bytes of `x` that none of them stored. -/
def undoIn (big : Bool) (x : StaleWord) (ys : List StaleWord) : List StaleWord × BitVec 4 :=
  match ys with
  | [] => ([], x.bytes)
  | y :: rest =>
    let r := undoIn big x rest
    if y.addr = x.addr then ({ y with old := putBytes big r.2 x.old y.old } :: r.1, r.2 &&& ~~~y.bytes) else (y :: r.1, r.2)

/-- The write of the store `x`, record `k`, is lost: the bytes it wrote are what they were before, but for those a later
store wrote. -/
def undoStore (k : Nat) (x : StaleWord) (s : State) : State :=
  let r := undoIn s.cfg.bigEndian x (s.stale.take k)
  { s with
    mem := memStore s.cfg.bigEndian s.mem .word x.addr
      (putBytes s.cfg.bigEndian r.2 x.old (memLoad s.cfg.bigEndian s.mem .word x.addr))
    stale := r.1 ++ { x with bytes := 0#4 } :: s.stale.drop (k + 1) }

/-- The bus reports the failure of the write of record `k`: the error is pending, and if that write may still be on its
way, the bytes freely hold the new data or the old. -/
def lateWriteFails (k : Nat) (s : State) : State :=
  let t : State := match (s.stale[k]? : Option StaleWord) with
    | some x => if x.stage = .inMemory ∨ Config.freeLateWriteLands s.free k then s else undoStore k x s
    | none => s
  { t with busErrorPending := true }

/-! ## Data accesses -/

/-- An uncached access to external memory does `f` to the line of `pa` in the data cache and the write buffer
(20_memory.md R179, R191). -/
def touchLine (f : StaleWord → Word → StaleWord) (cached : Bool) (pa : Word) (s : State) : State :=
  if cached = false ∧ windowOf s.cfg pa = .memory then { s with stale := s.stale.map (fun x => f x pa) } else s

/-- Writing external memory: a ROM keeps its contents (00_scope.md R9; log 4). -/
def externalWrite (s : State) (w : Width) (cached : Bool) (pa v : Word) : State :=
  if romAt s.cfg pa then s else storeMem s w cached pa v

/-- A data write of the bus (60_exceptions.md R523, 61 R583, 20_memory.md R190). A failed write raises the pending flag
and freely lands or not (log 11). -/
def busWrite (s : State) (w : Width) (cached : Bool) (pa v : Word) : State :=
  match windowOf s.cfg pa with
  | .intc off => if w = .word then intcWrite s off v else { s with busErrorPending := true }
  | .dsu off => if w = .word then dsuWrite s off v else { s with busErrorPending := true }
  | .rom _ => if w = .word then s else { s with busErrorPending := true }
  | .memory =>
    let t := touchLine StaleWord.purgeLine cached pa s
    if busWriteError s.cfg pa then
      if Config.freeWriteLands s.free then { externalWrite t w cached pa v with busErrorPending := true }
      else { t with busErrorPending := true }
    else externalWrite t w cached pa v

/-- `Read_n(a)` at commit, its value extended by `ext` into `dest` (20_memory.md R152). After a bus error the
destination is free and the error pending (60_exceptions.md R524; log 11). -/
def dataRead (w : Width) (ext : Word → Word) (a : Word) (dest : GReg) (s : State) : State :=
  let t := touchLine StaleWord.readLine (cachedAccess s a) (translate s a) s
  match busRead s w (cachedAccess s a) (translate s a) with
  | some v => t.writeR dest (ext v)
  | none => { t.writeR dest (Config.freeLoadValue s.free) with busErrorPending := true }

/-- A dismissible load of this address gives 0 before the SCU is asked (20_memory.md R153): it is misaligned, unmapped or
unreadable. -/
def dismissed (w : Width) (a : Word) (s : State) : Bool := misaligned w a || noTranslation s a || readViolation s a

/-- A dismissible load at commit (20_memory.md R153). One outside the SCU regions gives 0 too; an uncached one of these
takes the line out of the data cache but does not wait for its writes (R191). -/
def disRead (w : Width) (ext : Word → Word) (a : Word) (dest : GReg) (s : State) : State :=
  if dismissed w a s then s.writeR dest 0#32
  else if scuHit s (translate s a) then dataRead w ext a dest s
  else (touchLine StaleWord.purgeLine (cachedAccess s a) (translate s a) s).writeR dest 0#32

/-- A normal load (44_load_store_cache.md R435, R437, R441). -/
def loadOp (w : Width) (ext : Word → Word) (dest src1 : GReg) (isrc2 : Imm9) (s : State) :
    Host.Outcome State Fault Refusal :=
  let a := s.ea src1 isrc2
  if isDBreakHit s a then raised (.at .dbreak a) s
  else if isCRegSpace a then
    if w = .word then cregLoad a dest s else raised (.at .cregAccessViolation a) s
  else
    match readCheck w a s with
    | some e => raised e s
    | none => .next (dataRead w ext a dest s)

/-- A dismissible load (44_load_store_cache.md R436, R438, R442). -/
def disLoadOp (w : Width) (ext : Word → Word) (dest src1 : GReg) (isrc2 : Imm9) (s : State) :
    Host.Outcome State Fault Refusal :=
  let a := s.ea src1 isrc2
  if isDBreakHit s a then raised (.at .dbreak a) s
  else if isCRegSpace a then .next (s.writeR dest 0#32)
  else
    match disReadCheck w a s with
    | some e => raised e s
    | none => .next (disRead w ext a dest s)

/-- A store (44_load_store_cache.md R445 to R447). -/
def storeOp (w : Width) (src2 src1 : GReg) (isrc2 : Imm9) (s : State) : Host.Outcome State Fault Refusal :=
  let a := s.ea src1 isrc2
  if isDBreakHit s a then raised (.at .dbreak a) s
  else if isCRegSpace a then
    if w = .word then cregStore a (s.r src2) s else raised (.at .cregAccessViolation a) s
  else
    match writeCheck w a s with
    | some e => raised e s
    | none => .next (busWrite s w (cachedAccess s a) (translate s a) (s.r src2))

/-- `sext_16` of a loaded half-word, as a word. -/
def extendHalf (v : Word) : Word := reg32 (sext16 v)

/-- `sext_8` of a loaded byte, as a word. -/
def extendByte (v : Word) : Word := reg32 (v.setWidth 8).toInt

/-- The line fill of a `pft` of `a` may end in a bus error (44_load_store_cache.md R451, R452, 60_exceptions.md R523): it is
made for a cached, readable page and an address the SCU admits, and from external memory only (61 R583; log 29). -/
def prefetchMayFail (a : Word) (s : State) : Bool :=
  !isCRegSpace a && cachedAccess s a && !readViolation s a && scuHit s (translate s a) &&
  windowOf s.cfg (translate s a) == .memory && busReadError s.cfg (translate s a)

/-- `pft` at commit: nothing but, if the platform reports it, the bus error of its line fill (R452; log 29). -/
def prefetch (a : Word) (s : State) : State :=
  if prefetchMayFail a s && Config.freePrefetchError s.free then { s with busErrorPending := true } else s

/-- `prgadd` at commit (20_memory.md R182): nothing for an address in control register space, unmapped or unreadable. -/
def purgeAddress (a : Word) (s : State) : State :=
  if isCRegSpace a || noTranslation s a || readViolation s a then s
  else { s with stale := s.stale.map (fun x => x.purgeLine (translate s a)) }

end Sys2Proof.Machine
end

