-- ==== Sys2Proof/Machine/Control.lean ====
section
/-! DEFINITION. Control transfer operations (45_control_transfer.md R470 to R479), with idle mode (61_platform_devices.md R690). -/

namespace Sys2Proof.Machine

/-- The target an indirect branch takes from the link register: R63 while SLR is a true copy of it, else a free address
(70_reset_and_hazards.md R722; log 10). -/
def linkTarget (s : State) : Word :=
  if s.slrValid then toPc (s.r 63#6) else toPc (Config.freeBranchTarget s.free)

/-- Some output port's channel is not empty (61 R690). -/
def outputBusy (s : State) : Bool :=
  ([0, 1, 2, 3] : List (Fin 4)).any (fun i => !s.cfg.sdi[i].isInput && !s.sdi[i].chan.isEmpty)

/-- The bundle is the `idle` macro: `goto` with BTARG 0 alone in its bundle (47_macros.md R503). -/
def isIdleBundle (btarg : Imm23) (s : State) : Bool := btarg == 0#23 && s.nextPc == s.pc + 4#32

/-- `goto` and `br` to a target. -/
def State.jump (s : State) (target : Word) : State := { s with nextPc := target }

/-- Entering idle mode: PM_CR.IDLE is set and the PC stays (61 R690). -/
def enterIdle (s : State) : State := { s.jump s.pc with pm := { s.pm with idle := true }, coreIdle := true }

/-- `br` (45_control_transfer.md R470). -/
def execBr (bcond : BReg) (btarg : Imm23) (s : State) : Host.Outcome State Fault Refusal :=
  .next (if s.b bcond then s.jump (branchTarget s.pc btarg) else s)

/-- `brf` (45_control_transfer.md R471). -/
def execBrf (bcond : BReg) (btarg : Imm23) (s : State) : Host.Outcome State Fault Refusal :=
  .next (if s.b bcond then s else s.jump (branchTarget s.pc btarg))

/-- `call`, immediate form (45_control_transfer.md R472): R63 receives NEXT_PC. -/
def execCallImm (btarg : Imm23) (s : State) : Host.Outcome State Fault Refusal :=
  .next ((s.writeR 63#6 s.nextPc).jump (branchTarget s.pc btarg))

/-- `call`, link-register form (45_control_transfer.md R473). -/
def execCallLink (s : State) : Host.Outcome State Fault Refusal :=
  .next ((s.writeR 63#6 s.nextPc).jump (linkTarget s))

/-- `goto`, immediate form (45_control_transfer.md R474), which alone with BTARG 0 may enter idle mode (61 R690). -/
def execGotoImm (btarg : Imm23) (s : State) : Host.Outcome State Fault Refusal :=
  if isIdleBundle btarg s && !s.pm.enb && !outputBusy s then .next (enterIdle s)
  else .next (s.jump (branchTarget s.pc btarg))

/-- `goto`, link-register form (45_control_transfer.md R475). -/
def execGotoLink (s : State) : Host.Outcome State Fault Refusal := .next (s.jump (linkTarget s))

end Sys2Proof.Machine
end

