-- ==== Sys2Proof/Machine/Extension.lean ====
section
/-! DEFINITION. Immediate extensions (30_encoding.md R300, R301). -/

namespace Sys2Proof.Machine

/-- `imml`: the extension of the operation on its left (30_encoding.md R301). -/
def execImml (imm : Imm23) (s : State) : Host.Outcome State Fault Refusal := .next { s with ext := some imm }

/-- `immr`: the extension of the operation on its right (30_encoding.md R301). -/
def execImmr (imm : Imm23) (s : State) : Host.Outcome State Fault Refusal := .next { s with ext := some imm }

end Sys2Proof.Machine
end

