-- ==== Sys2Proof/Machine/Integer.lean ====
section
/-! DEFINITION. Integer arithmetic, shift, bitwise, minimum and maximum, and extend operations (40_integer.md). Each result
is a function of two words, used by the register form and the immediate form alike (R373). -/

namespace Sys2Proof.Machine

/-- The result of `add` (40_integer.md R350). -/
def addResult (a b : Word) : Word := reg32 (sext32 a + sext32 b)

/-- The result of `sub` (40_integer.md R351: the first source is subtracted from the second). -/
def subResult (a b : Word) : Word := reg32 (sext32 b - sext32 a)

/-- The result of `shl` (40_integer.md R352). -/
def shlResult (a b : Word) : Word := if zext8 b > 31 then reg32 0 else reg32 (sal (sext32 a) (zext8 b))

/-- The result of `shr` (40_integer.md R353). -/
def shrResult (a b : Word) : Word := reg32 (sar (sext32 a) (zext8 b))

/-- The result of `shru` (40_integer.md R354). -/
def shruResult (a b : Word) : Word := reg32 (sar (zext32 a) (zext8 b))

/-- The result of `sh1add` (40_integer.md R355). -/
def sh1addResult (a b : Word) : Word := reg32 (sal (sext32 a) 1 + sext32 b)

/-- The result of `sh2add` (40_integer.md R356). -/
def sh2addResult (a b : Word) : Word := reg32 (sal (sext32 a) 2 + sext32 b)

/-- The result of `sh3add` (40_integer.md R357). -/
def sh3addResult (a b : Word) : Word := reg32 (sal (sext32 a) 3 + sext32 b)

/-- The result of `sh4add` (40_integer.md R358). -/
def sh4addResult (a b : Word) : Word := reg32 (sal (sext32 a) 4 + sext32 b)

/-- The result of `and` (40_integer.md R359). -/
def andResult (a b : Word) : Word := a &&& b

/-- The result of `andc` (40_integer.md R360: the first source is complemented). -/
def andcResult (a b : Word) : Word := ~~~a &&& b

/-- The result of `or` (40_integer.md R361). -/
def orResult (a b : Word) : Word := a ||| b

/-- The result of `orc` (40_integer.md R362: the first source is complemented). -/
def orcResult (a b : Word) : Word := ~~~a ||| b

/-- The result of `xor` (40_integer.md R363). -/
def xorResult (a b : Word) : Word := a ^^^ b

/-- The result of `max` (40_integer.md R364). -/
def maxResult (a b : Word) : Word := if sext32 a > sext32 b then a else b

/-- The result of `maxu` (40_integer.md R365). -/
def maxuResult (a b : Word) : Word := if zext32 a > zext32 b then a else b

/-- The result of `min` (40_integer.md R366). -/
def minResult (a b : Word) : Word := if sext32 a < sext32 b then a else b

/-- The result of `minu` (40_integer.md R367). -/
def minuResult (a b : Word) : Word := if zext32 a < zext32 b then a else b

/-- The number of zero bits above the highest set bit among the low `n` bits (`clz32`, 00_scope.md R13). -/
def leadingZeros (a : Word) (n : Nat) : Nat :=
  match n with
  | 0 => 0
  | k + 1 => if a.getLsbD k then 0 else leadingZeros a k + 1

/-- The result of `sxtb` (40_integer.md R368). -/
def sxtbResult (a : Word) : Word := reg32 (a.setWidth 8).toInt

/-- The result of `sxth` (40_integer.md R369). -/
def sxthResult (a : Word) : Word := reg32 (sext16 a)

/-- The result of `bswap` (40_integer.md R370). -/
def bswapResult (a : Word) : Word := a.extractLsb' 0 8 ++ a.extractLsb' 8 8 ++ a.extractLsb' 16 8 ++ a.extractLsb' 24 8

/-- The result of `zxth` (40_integer.md R371). -/
def zxthResult (a : Word) : Word := reg32 (zext16 a)

/-- The result of `clz` (40_integer.md R372). -/
def clzResult (a : Word) : Word := BitVec.ofNat 32 (leadingZeros a 32)

/-- `add`, register form (40_integer.md R350). -/
def execAddR (dest : GReg) (src1 : GReg) (src2 : GReg) (s : State) : Host.Outcome State Fault Refusal :=
  .next (s.writeR dest (addResult (s.r src1) (s.r src2)))

/-- `add`, immediate form (40_integer.md R350). -/
def execAddI (idest : GReg) (src1 : GReg) (isrc2 : Imm9) (s : State) : Host.Outcome State Fault Refusal :=
  .next (s.writeR idest (addResult (s.r src1) (s.imm isrc2)))

/-- `sub`, register form (40_integer.md R351). -/
def execSubR (dest : GReg) (src1 : GReg) (src2 : GReg) (s : State) : Host.Outcome State Fault Refusal :=
  .next (s.writeR dest (subResult (s.r src1) (s.r src2)))

/-- `sub`, immediate form (40_integer.md R351). -/
def execSubI (idest : GReg) (src1 : GReg) (isrc2 : Imm9) (s : State) : Host.Outcome State Fault Refusal :=
  .next (s.writeR idest (subResult (s.r src1) (s.imm isrc2)))

/-- `shl`, register form (40_integer.md R352). -/
def execShlR (dest : GReg) (src1 : GReg) (src2 : GReg) (s : State) : Host.Outcome State Fault Refusal :=
  .next (s.writeR dest (shlResult (s.r src1) (s.r src2)))

/-- `shl`, immediate form (40_integer.md R352). -/
def execShlI (idest : GReg) (src1 : GReg) (isrc2 : Imm9) (s : State) : Host.Outcome State Fault Refusal :=
  .next (s.writeR idest (shlResult (s.r src1) (s.imm isrc2)))

/-- `shr`, register form (40_integer.md R353). -/
def execShrR (dest : GReg) (src1 : GReg) (src2 : GReg) (s : State) : Host.Outcome State Fault Refusal :=
  .next (s.writeR dest (shrResult (s.r src1) (s.r src2)))

/-- `shr`, immediate form (40_integer.md R353). -/
def execShrI (idest : GReg) (src1 : GReg) (isrc2 : Imm9) (s : State) : Host.Outcome State Fault Refusal :=
  .next (s.writeR idest (shrResult (s.r src1) (s.imm isrc2)))

/-- `shru`, register form (40_integer.md R354). -/
def execShruR (dest : GReg) (src1 : GReg) (src2 : GReg) (s : State) : Host.Outcome State Fault Refusal :=
  .next (s.writeR dest (shruResult (s.r src1) (s.r src2)))

/-- `shru`, immediate form (40_integer.md R354). -/
def execShruI (idest : GReg) (src1 : GReg) (isrc2 : Imm9) (s : State) : Host.Outcome State Fault Refusal :=
  .next (s.writeR idest (shruResult (s.r src1) (s.imm isrc2)))

/-- `sh1add`, register form (40_integer.md R355). -/
def execSh1addR (dest : GReg) (src1 : GReg) (src2 : GReg) (s : State) : Host.Outcome State Fault Refusal :=
  .next (s.writeR dest (sh1addResult (s.r src1) (s.r src2)))

/-- `sh1add`, immediate form (40_integer.md R355). -/
def execSh1addI (idest : GReg) (src1 : GReg) (isrc2 : Imm9) (s : State) : Host.Outcome State Fault Refusal :=
  .next (s.writeR idest (sh1addResult (s.r src1) (s.imm isrc2)))

/-- `sh2add`, register form (40_integer.md R356). -/
def execSh2addR (dest : GReg) (src1 : GReg) (src2 : GReg) (s : State) : Host.Outcome State Fault Refusal :=
  .next (s.writeR dest (sh2addResult (s.r src1) (s.r src2)))

/-- `sh2add`, immediate form (40_integer.md R356). -/
def execSh2addI (idest : GReg) (src1 : GReg) (isrc2 : Imm9) (s : State) : Host.Outcome State Fault Refusal :=
  .next (s.writeR idest (sh2addResult (s.r src1) (s.imm isrc2)))

/-- `sh3add`, register form (40_integer.md R357). -/
def execSh3addR (dest : GReg) (src1 : GReg) (src2 : GReg) (s : State) : Host.Outcome State Fault Refusal :=
  .next (s.writeR dest (sh3addResult (s.r src1) (s.r src2)))

/-- `sh3add`, immediate form (40_integer.md R357). -/
def execSh3addI (idest : GReg) (src1 : GReg) (isrc2 : Imm9) (s : State) : Host.Outcome State Fault Refusal :=
  .next (s.writeR idest (sh3addResult (s.r src1) (s.imm isrc2)))

/-- `sh4add`, register form (40_integer.md R358). -/
def execSh4addR (dest : GReg) (src1 : GReg) (src2 : GReg) (s : State) : Host.Outcome State Fault Refusal :=
  .next (s.writeR dest (sh4addResult (s.r src1) (s.r src2)))

/-- `sh4add`, immediate form (40_integer.md R358). -/
def execSh4addI (idest : GReg) (src1 : GReg) (isrc2 : Imm9) (s : State) : Host.Outcome State Fault Refusal :=
  .next (s.writeR idest (sh4addResult (s.r src1) (s.imm isrc2)))

/-- `and`, register form (40_integer.md R359). -/
def execAndR (dest : GReg) (src1 : GReg) (src2 : GReg) (s : State) : Host.Outcome State Fault Refusal :=
  .next (s.writeR dest (andResult (s.r src1) (s.r src2)))

/-- `and`, immediate form (40_integer.md R359). -/
def execAndI (idest : GReg) (src1 : GReg) (isrc2 : Imm9) (s : State) : Host.Outcome State Fault Refusal :=
  .next (s.writeR idest (andResult (s.r src1) (s.imm isrc2)))

/-- `andc`, register form (40_integer.md R360). -/
def execAndcR (dest : GReg) (src1 : GReg) (src2 : GReg) (s : State) : Host.Outcome State Fault Refusal :=
  .next (s.writeR dest (andcResult (s.r src1) (s.r src2)))

/-- `andc`, immediate form (40_integer.md R360). -/
def execAndcI (idest : GReg) (src1 : GReg) (isrc2 : Imm9) (s : State) : Host.Outcome State Fault Refusal :=
  .next (s.writeR idest (andcResult (s.r src1) (s.imm isrc2)))

/-- `or`, register form (40_integer.md R361). -/
def execOrR (dest : GReg) (src1 : GReg) (src2 : GReg) (s : State) : Host.Outcome State Fault Refusal :=
  .next (s.writeR dest (orResult (s.r src1) (s.r src2)))

/-- `or`, immediate form (40_integer.md R361). -/
def execOrI (idest : GReg) (src1 : GReg) (isrc2 : Imm9) (s : State) : Host.Outcome State Fault Refusal :=
  .next (s.writeR idest (orResult (s.r src1) (s.imm isrc2)))

/-- `orc`, register form (40_integer.md R362). -/
def execOrcR (dest : GReg) (src1 : GReg) (src2 : GReg) (s : State) : Host.Outcome State Fault Refusal :=
  .next (s.writeR dest (orcResult (s.r src1) (s.r src2)))

/-- `orc`, immediate form (40_integer.md R362). -/
def execOrcI (idest : GReg) (src1 : GReg) (isrc2 : Imm9) (s : State) : Host.Outcome State Fault Refusal :=
  .next (s.writeR idest (orcResult (s.r src1) (s.imm isrc2)))

/-- `xor`, register form (40_integer.md R363). -/
def execXorR (dest : GReg) (src1 : GReg) (src2 : GReg) (s : State) : Host.Outcome State Fault Refusal :=
  .next (s.writeR dest (xorResult (s.r src1) (s.r src2)))

/-- `xor`, immediate form (40_integer.md R363). -/
def execXorI (idest : GReg) (src1 : GReg) (isrc2 : Imm9) (s : State) : Host.Outcome State Fault Refusal :=
  .next (s.writeR idest (xorResult (s.r src1) (s.imm isrc2)))

/-- `max`, register form (40_integer.md R364). -/
def execMaxR (dest : GReg) (src1 : GReg) (src2 : GReg) (s : State) : Host.Outcome State Fault Refusal :=
  .next (s.writeR dest (maxResult (s.r src1) (s.r src2)))

/-- `max`, immediate form (40_integer.md R364). -/
def execMaxI (idest : GReg) (src1 : GReg) (isrc2 : Imm9) (s : State) : Host.Outcome State Fault Refusal :=
  .next (s.writeR idest (maxResult (s.r src1) (s.imm isrc2)))

/-- `maxu`, register form (40_integer.md R365). -/
def execMaxuR (dest : GReg) (src1 : GReg) (src2 : GReg) (s : State) : Host.Outcome State Fault Refusal :=
  .next (s.writeR dest (maxuResult (s.r src1) (s.r src2)))

/-- `maxu`, immediate form (40_integer.md R365). -/
def execMaxuI (idest : GReg) (src1 : GReg) (isrc2 : Imm9) (s : State) : Host.Outcome State Fault Refusal :=
  .next (s.writeR idest (maxuResult (s.r src1) (s.imm isrc2)))

/-- `min`, register form (40_integer.md R366). -/
def execMinR (dest : GReg) (src1 : GReg) (src2 : GReg) (s : State) : Host.Outcome State Fault Refusal :=
  .next (s.writeR dest (minResult (s.r src1) (s.r src2)))

/-- `min`, immediate form (40_integer.md R366). -/
def execMinI (idest : GReg) (src1 : GReg) (isrc2 : Imm9) (s : State) : Host.Outcome State Fault Refusal :=
  .next (s.writeR idest (minResult (s.r src1) (s.imm isrc2)))

/-- `minu`, register form (40_integer.md R367). -/
def execMinuR (dest : GReg) (src1 : GReg) (src2 : GReg) (s : State) : Host.Outcome State Fault Refusal :=
  .next (s.writeR dest (minuResult (s.r src1) (s.r src2)))

/-- `minu`, immediate form (40_integer.md R367). -/
def execMinuI (idest : GReg) (src1 : GReg) (isrc2 : Imm9) (s : State) : Host.Outcome State Fault Refusal :=
  .next (s.writeR idest (minuResult (s.r src1) (s.imm isrc2)))

/-- `sxtb` (40_integer.md R368). -/
def execSxtb (idest : GReg) (src1 : GReg) (s : State) : Host.Outcome State Fault Refusal :=
  .next (s.writeR idest (sxtbResult (s.r src1)))

/-- `sxth` (40_integer.md R369). -/
def execSxth (idest : GReg) (src1 : GReg) (s : State) : Host.Outcome State Fault Refusal :=
  .next (s.writeR idest (sxthResult (s.r src1)))

/-- `bswap` (40_integer.md R370). -/
def execBswap (idest : GReg) (src1 : GReg) (s : State) : Host.Outcome State Fault Refusal :=
  .next (s.writeR idest (bswapResult (s.r src1)))

/-- `zxth` (40_integer.md R371). -/
def execZxth (idest : GReg) (src1 : GReg) (s : State) : Host.Outcome State Fault Refusal :=
  .next (s.writeR idest (zxthResult (s.r src1)))

/-- `clz` (40_integer.md R372). -/
def execClz (idest : GReg) (src1 : GReg) (s : State) : Host.Outcome State Fault Refusal :=
  .next (s.writeR idest (clzResult (s.r src1)))

end Sys2Proof.Machine
end

