-- ==== Sys2Proof/Machine/LoadStore.lean ====
section
/-! DEFINITION. Load, store, prefetch, purge and sync operations (44_load_store_cache.md). -/

namespace Sys2Proof.Machine

/-- `prgins` (44_load_store_cache.md R456); it empties the pipeline (10_state.md R97). -/
def execPrgins (s : State) : Host.Outcome State Fault Refusal :=
  privileged s (.next { s with stale := s.stale.map StaleWord.invalidateAll, tlb := s.tlb.settle })

/-- `ldw` (44_load_store_cache.md R435). -/
def execLdw (idest : GReg) (src1 : GReg) (isrc2 : Imm9) (s : State) : Host.Outcome State Fault Refusal :=
  loadOp .word id idest src1 isrc2 s

/-- `ldw.d` (44_load_store_cache.md R436). -/
def execLdwD (idest : GReg) (src1 : GReg) (isrc2 : Imm9) (s : State) : Host.Outcome State Fault Refusal :=
  disLoadOp .word id idest src1 isrc2 s

/-- `ldh` (44_load_store_cache.md R437). -/
def execLdh (nlidest : GReg) (src1 : GReg) (isrc2 : Imm9) (s : State) : Host.Outcome State Fault Refusal :=
  loadOp .half extendHalf nlidest src1 isrc2 s

/-- `ldh.d` (44_load_store_cache.md R438). -/
def execLdhD (nlidest : GReg) (src1 : GReg) (isrc2 : Imm9) (s : State) : Host.Outcome State Fault Refusal :=
  disLoadOp .half extendHalf nlidest src1 isrc2 s

/-- `ldhu` (44_load_store_cache.md R439). -/
def execLdhu (nlidest : GReg) (src1 : GReg) (isrc2 : Imm9) (s : State) : Host.Outcome State Fault Refusal :=
  loadOp .half id nlidest src1 isrc2 s

/-- `ldhu.d` (44_load_store_cache.md R440). -/
def execLdhuD (nlidest : GReg) (src1 : GReg) (isrc2 : Imm9) (s : State) : Host.Outcome State Fault Refusal :=
  disLoadOp .half id nlidest src1 isrc2 s

/-- `ldb` (44_load_store_cache.md R441). -/
def execLdb (nlidest : GReg) (src1 : GReg) (isrc2 : Imm9) (s : State) : Host.Outcome State Fault Refusal :=
  loadOp .byte extendByte nlidest src1 isrc2 s

/-- `ldb.d` (44_load_store_cache.md R442). -/
def execLdbD (nlidest : GReg) (src1 : GReg) (isrc2 : Imm9) (s : State) : Host.Outcome State Fault Refusal :=
  disLoadOp .byte extendByte nlidest src1 isrc2 s

/-- `ldbu` (44_load_store_cache.md R443). -/
def execLdbu (nlidest : GReg) (src1 : GReg) (isrc2 : Imm9) (s : State) : Host.Outcome State Fault Refusal :=
  loadOp .byte id nlidest src1 isrc2 s

/-- `ldbu.d` (44_load_store_cache.md R444). -/
def execLdbuD (nlidest : GReg) (src1 : GReg) (isrc2 : Imm9) (s : State) : Host.Outcome State Fault Refusal :=
  disLoadOp .byte id nlidest src1 isrc2 s

/-- `stw` (44_load_store_cache.md R445). -/
def execStw (src2 : GReg) (src1 : GReg) (isrc2 : Imm9) (s : State) : Host.Outcome State Fault Refusal :=
  storeOp .word src2 src1 isrc2 s

/-- `sth` (44_load_store_cache.md R446). -/
def execSth (src2 : GReg) (src1 : GReg) (isrc2 : Imm9) (s : State) : Host.Outcome State Fault Refusal :=
  storeOp .half src2 src1 isrc2 s

/-- `stb` (44_load_store_cache.md R447). -/
def execStb (src2 : GReg) (src1 : GReg) (isrc2 : Imm9) (s : State) : Host.Outcome State Fault Refusal :=
  storeOp .byte src2 src1 isrc2 s

/-- `pft`: a hint that raises nothing and changes nothing, but that its line fill may meet a bus error
(44_load_store_cache.md R451, R452). -/
def execPft (src1 : GReg) (isrc2 : Imm9) (s : State) : Host.Outcome State Fault Refusal :=
  .next (prefetch (s.ea src1 isrc2) s)

/-- `prgadd` (44_load_store_cache.md R453): no check for an address in control register space. -/
def execPrgadd (src1 : GReg) (isrc2 : Imm9) (s : State) : Host.Outcome State Fault Refusal :=
  let a := s.ea src1 isrc2
  if isCRegSpace a then .next s
  else
    match purgeCheck a s with
    | some e => raised e s
    | none => .next (purgeAddress a s)

/-- `prgset` (44_load_store_cache.md R454). -/
def execPrgset (src1 : GReg) (isrc2 : Imm9) (s : State) : Host.Outcome State Fault Refusal :=
  .next { s with stale := s.stale.map (fun x => x.purgeSet (s.ea src1 isrc2)) }

/-- `sync` (44_load_store_cache.md R455). -/
def execSync (s : State) : Host.Outcome State Fault Refusal := .next { s with stale := s.stale.map StaleWord.sync }

/-- `prginspg` (44_load_store_cache.md R457); it empties the pipeline (10_state.md R97). -/
def execPrginspg (src1 : GReg) (isrc2 : Imm9) (s : State) : Host.Outcome State Fault Refusal :=
  privileged s (.next
    { s with stale := s.stale.map (fun x => x.invalidatePage (s.ea src1 isrc2)), tlb := s.tlb.settle })

end Sys2Proof.Machine
end

