-- ==== Sys2Proof/Machine/Multiply.lean ====
section
/-! DEFINITION. Multiply operations (43_multiply.md R410 to R430): the result of each as a function of two words, used by its
register form and its immediate form. The restrictions of R428 are checks of bundles. -/

namespace Sys2Proof.Machine

/-- The result of `mull` (43_multiply.md R417). -/
def mullResult (a b : Word) : Word := reg32 (sext32 a * sext16 b)

/-- The result of `mullu` (43_multiply.md R423). -/
def mulluResult (a b : Word) : Word := reg32 (zext32 a * zext16 b)

/-- The result of `mulh` (43_multiply.md R411). -/
def mulhResult (a b : Word) : Word := reg32 (sext32 a * sar (sext32 b) 16)

/-- The result of `mulhu` (43_multiply.md R416). -/
def mulhuResult (a b : Word) : Word := reg32 (zext32 a * zext16i (sar (sext32 b) 16))

/-- The result of `mulhs` (43_multiply.md R415). -/
def mulhsResult (a b : Word) : Word := reg32 (sal (sext32 a * zext16i (sar (sext32 b) 16)) 16)

/-- The result of `mulhhs` (43_multiply.md R413). -/
def mulhhsResult (a b : Word) : Word := reg32 (sar (sext32 a * sar (sext32 b) 16) 16)

/-- The result of `mullhus` (43_multiply.md R420). -/
def mullhusResult (a b : Word) : Word := reg32 (sar (sext32 a * zext16 b) 32)

/-- The result of `mulll` (43_multiply.md R421). -/
def mulllResult (a b : Word) : Word := reg32 (sext16 a * sext16 b)

/-- The result of `mulllu` (43_multiply.md R422). -/
def mullluResult (a b : Word) : Word := reg32 (zext16 a * zext16 b)

/-- The result of `mullh` (43_multiply.md R418). -/
def mullhResult (a b : Word) : Word := reg32 (sext16 a * sar (sext32 b) 16)

/-- The result of `mullhu` (43_multiply.md R419). -/
def mullhuResult (a b : Word) : Word := reg32 (zext16 a * zext16i (sar (sext32 b) 16))

/-- The result of `mulhh` (43_multiply.md R412). -/
def mulhhResult (a b : Word) : Word := reg32 (sar (sext32 a) 16 * sar (sext32 b) 16)

/-- The result of `mulhhu` (43_multiply.md R414). -/
def mulhhuResult (a b : Word) : Word := reg32 (zext16i (sar (sext32 a) 16) * zext16i (sar (sext32 b) 16))

/-- The result of `mul32` (43_multiply.md R424). -/
def mul32Result (a b : Word) : Word := reg32 (sext32 a * sext32 b)

/-- The result of `mul64h` (43_multiply.md R425). -/
def mul64hResult (a b : Word) : Word := reg32 (sar (sext32 a * sext32 b) 32)

/-- The result of `mul64hu` (43_multiply.md R426). -/
def mul64huResult (a b : Word) : Word := reg32 (sar (zext32 a * zext32 b) 32)

/-- The result of `mulfrac` (43_multiply.md R427: rounded, and saturated for -1 times -1). -/
def mulfracResult (a b : Word) : Word :=
  if sext32 a = -(2 ^ 31) ∧ sext32 b = -(2 ^ 31) then 0x7FFFFFFF#32
  else reg32 (sar (sext32 a * sext32 b + sal 1 30) 31)

/-- `mullhus`, register form (43_multiply.md R420). -/
def execMullhusR (nldest : GReg) (src1 : GReg) (src2 : GReg) (s : State) : Host.Outcome State Fault Refusal :=
  .next (s.writeR nldest (mullhusResult (s.r src1) (s.r src2)))

/-- `mullhus`, immediate form (43_multiply.md R420). -/
def execMullhusI (nlidest : GReg) (src1 : GReg) (isrc2 : Imm9) (s : State) : Host.Outcome State Fault Refusal :=
  .next (s.writeR nlidest (mullhusResult (s.r src1) (s.imm isrc2)))

/-- `mulhhs`, register form (43_multiply.md R413). -/
def execMulhhsR (nldest : GReg) (src1 : GReg) (src2 : GReg) (s : State) : Host.Outcome State Fault Refusal :=
  .next (s.writeR nldest (mulhhsResult (s.r src1) (s.r src2)))

/-- `mulhhs`, immediate form (43_multiply.md R413). -/
def execMulhhsI (nlidest : GReg) (src1 : GReg) (isrc2 : Imm9) (s : State) : Host.Outcome State Fault Refusal :=
  .next (s.writeR nlidest (mulhhsResult (s.r src1) (s.imm isrc2)))

/-- `mull`, register form (43_multiply.md R417). -/
def execMullR (nldest : GReg) (src1 : GReg) (src2 : GReg) (s : State) : Host.Outcome State Fault Refusal :=
  .next (s.writeR nldest (mullResult (s.r src1) (s.r src2)))

/-- `mull`, immediate form (43_multiply.md R417). -/
def execMullI (nlidest : GReg) (src1 : GReg) (isrc2 : Imm9) (s : State) : Host.Outcome State Fault Refusal :=
  .next (s.writeR nlidest (mullResult (s.r src1) (s.imm isrc2)))

/-- `mullu`, register form (43_multiply.md R423). -/
def execMulluR (nldest : GReg) (src1 : GReg) (src2 : GReg) (s : State) : Host.Outcome State Fault Refusal :=
  .next (s.writeR nldest (mulluResult (s.r src1) (s.r src2)))

/-- `mullu`, immediate form (43_multiply.md R423). -/
def execMulluI (nlidest : GReg) (src1 : GReg) (isrc2 : Imm9) (s : State) : Host.Outcome State Fault Refusal :=
  .next (s.writeR nlidest (mulluResult (s.r src1) (s.imm isrc2)))

/-- `mulh`, register form (43_multiply.md R411). -/
def execMulhR (nldest : GReg) (src1 : GReg) (src2 : GReg) (s : State) : Host.Outcome State Fault Refusal :=
  .next (s.writeR nldest (mulhResult (s.r src1) (s.r src2)))

/-- `mulh`, immediate form (43_multiply.md R411). -/
def execMulhI (nlidest : GReg) (src1 : GReg) (isrc2 : Imm9) (s : State) : Host.Outcome State Fault Refusal :=
  .next (s.writeR nlidest (mulhResult (s.r src1) (s.imm isrc2)))

/-- `mulhu`, register form (43_multiply.md R416). -/
def execMulhuR (nldest : GReg) (src1 : GReg) (src2 : GReg) (s : State) : Host.Outcome State Fault Refusal :=
  .next (s.writeR nldest (mulhuResult (s.r src1) (s.r src2)))

/-- `mulhu`, immediate form (43_multiply.md R416). -/
def execMulhuI (nlidest : GReg) (src1 : GReg) (isrc2 : Imm9) (s : State) : Host.Outcome State Fault Refusal :=
  .next (s.writeR nlidest (mulhuResult (s.r src1) (s.imm isrc2)))

/-- `mulll`, register form (43_multiply.md R421). -/
def execMulllR (nldest : GReg) (src1 : GReg) (src2 : GReg) (s : State) : Host.Outcome State Fault Refusal :=
  .next (s.writeR nldest (mulllResult (s.r src1) (s.r src2)))

/-- `mulll`, immediate form (43_multiply.md R421). -/
def execMulllI (nlidest : GReg) (src1 : GReg) (isrc2 : Imm9) (s : State) : Host.Outcome State Fault Refusal :=
  .next (s.writeR nlidest (mulllResult (s.r src1) (s.imm isrc2)))

/-- `mulllu`, register form (43_multiply.md R422). -/
def execMullluR (nldest : GReg) (src1 : GReg) (src2 : GReg) (s : State) : Host.Outcome State Fault Refusal :=
  .next (s.writeR nldest (mullluResult (s.r src1) (s.r src2)))

/-- `mulllu`, immediate form (43_multiply.md R422). -/
def execMullluI (nlidest : GReg) (src1 : GReg) (isrc2 : Imm9) (s : State) : Host.Outcome State Fault Refusal :=
  .next (s.writeR nlidest (mullluResult (s.r src1) (s.imm isrc2)))

/-- `mullh`, register form (43_multiply.md R418). -/
def execMullhR (nldest : GReg) (src1 : GReg) (src2 : GReg) (s : State) : Host.Outcome State Fault Refusal :=
  .next (s.writeR nldest (mullhResult (s.r src1) (s.r src2)))

/-- `mullh`, immediate form (43_multiply.md R418). -/
def execMullhI (nlidest : GReg) (src1 : GReg) (isrc2 : Imm9) (s : State) : Host.Outcome State Fault Refusal :=
  .next (s.writeR nlidest (mullhResult (s.r src1) (s.imm isrc2)))

/-- `mullhu`, register form (43_multiply.md R419). -/
def execMullhuR (nldest : GReg) (src1 : GReg) (src2 : GReg) (s : State) : Host.Outcome State Fault Refusal :=
  .next (s.writeR nldest (mullhuResult (s.r src1) (s.r src2)))

/-- `mullhu`, immediate form (43_multiply.md R419). -/
def execMullhuI (nlidest : GReg) (src1 : GReg) (isrc2 : Imm9) (s : State) : Host.Outcome State Fault Refusal :=
  .next (s.writeR nlidest (mullhuResult (s.r src1) (s.imm isrc2)))

/-- `mulhh`, register form (43_multiply.md R412). -/
def execMulhhR (nldest : GReg) (src1 : GReg) (src2 : GReg) (s : State) : Host.Outcome State Fault Refusal :=
  .next (s.writeR nldest (mulhhResult (s.r src1) (s.r src2)))

/-- `mulhh`, immediate form (43_multiply.md R412). -/
def execMulhhI (nlidest : GReg) (src1 : GReg) (isrc2 : Imm9) (s : State) : Host.Outcome State Fault Refusal :=
  .next (s.writeR nlidest (mulhhResult (s.r src1) (s.imm isrc2)))

/-- `mulhhu`, register form (43_multiply.md R414). -/
def execMulhhuR (nldest : GReg) (src1 : GReg) (src2 : GReg) (s : State) : Host.Outcome State Fault Refusal :=
  .next (s.writeR nldest (mulhhuResult (s.r src1) (s.r src2)))

/-- `mulhhu`, immediate form (43_multiply.md R414). -/
def execMulhhuI (nlidest : GReg) (src1 : GReg) (isrc2 : Imm9) (s : State) : Host.Outcome State Fault Refusal :=
  .next (s.writeR nlidest (mulhhuResult (s.r src1) (s.imm isrc2)))

/-- `mulhs`, register form (43_multiply.md R415). -/
def execMulhsR (nldest : GReg) (src1 : GReg) (src2 : GReg) (s : State) : Host.Outcome State Fault Refusal :=
  .next (s.writeR nldest (mulhsResult (s.r src1) (s.r src2)))

/-- `mulhs`, immediate form (43_multiply.md R415). -/
def execMulhsI (nlidest : GReg) (src1 : GReg) (isrc2 : Imm9) (s : State) : Host.Outcome State Fault Refusal :=
  .next (s.writeR nlidest (mulhsResult (s.r src1) (s.imm isrc2)))

/-- `mul32`, register form (43_multiply.md R424). -/
def execMul32R (nldest : GReg) (src1 : GReg) (src2 : GReg) (s : State) : Host.Outcome State Fault Refusal :=
  .next (s.writeR nldest (mul32Result (s.r src1) (s.r src2)))

/-- `mul32`, immediate form (43_multiply.md R424). -/
def execMul32I (nlidest : GReg) (src1 : GReg) (isrc2 : Imm9) (s : State) : Host.Outcome State Fault Refusal :=
  .next (s.writeR nlidest (mul32Result (s.r src1) (s.imm isrc2)))

/-- `mul64h`, register form (43_multiply.md R425). -/
def execMul64hR (nldest : GReg) (src1 : GReg) (src2 : GReg) (s : State) : Host.Outcome State Fault Refusal :=
  .next (s.writeR nldest (mul64hResult (s.r src1) (s.r src2)))

/-- `mul64h`, immediate form (43_multiply.md R425). -/
def execMul64hI (nlidest : GReg) (src1 : GReg) (isrc2 : Imm9) (s : State) : Host.Outcome State Fault Refusal :=
  .next (s.writeR nlidest (mul64hResult (s.r src1) (s.imm isrc2)))

/-- `mul64hu`, register form (43_multiply.md R426). -/
def execMul64huR (nldest : GReg) (src1 : GReg) (src2 : GReg) (s : State) : Host.Outcome State Fault Refusal :=
  .next (s.writeR nldest (mul64huResult (s.r src1) (s.r src2)))

/-- `mul64hu`, immediate form (43_multiply.md R426). -/
def execMul64huI (nlidest : GReg) (src1 : GReg) (isrc2 : Imm9) (s : State) : Host.Outcome State Fault Refusal :=
  .next (s.writeR nlidest (mul64huResult (s.r src1) (s.imm isrc2)))

/-- `mulfrac`, register form (43_multiply.md R427). -/
def execMulfracR (nldest : GReg) (src1 : GReg) (src2 : GReg) (s : State) : Host.Outcome State Fault Refusal :=
  .next (s.writeR nldest (mulfracResult (s.r src1) (s.r src2)))

/-- `mulfrac`, immediate form (43_multiply.md R427). -/
def execMulfracI (nlidest : GReg) (src1 : GReg) (isrc2 : Imm9) (s : State) : Host.Outcome State Fault Refusal :=
  .next (s.writeR nlidest (mulfracResult (s.r src1) (s.imm isrc2)))

end Sys2Proof.Machine
end

