-- ==== Sys2Proof/Machine/Select.lean ====
section
/-! DEFINITION. Select, add with carry and divide step (42_select_carry_divide.md R400 to R403). -/

namespace Sys2Proof.Machine

/-- `slct`, register form (42_select_carry_divide.md R400). -/
def execSlctR (dest : GReg) (scond : BReg) (src1 : GReg) (src2 : GReg) (s : State) :
    Host.Outcome State Fault Refusal :=
  .next (s.writeR dest (if s.b scond then s.r src1 else s.r src2))

/-- `slct`, immediate form (42_select_carry_divide.md R400). -/
def execSlctI (idest : GReg) (scond : BReg) (src1 : GReg) (isrc2 : Imm9) (s : State) :
    Host.Outcome State Fault Refusal :=
  .next (s.writeR idest (if s.b scond then s.r src1 else s.imm isrc2))

/-- `slctf`, register form (42_select_carry_divide.md R401). -/
def execSlctfR (dest : GReg) (scond : BReg) (src1 : GReg) (src2 : GReg) (s : State) :
    Host.Outcome State Fault Refusal :=
  .next (s.writeR dest (if s.b scond then s.r src2 else s.r src1))

/-- `slctf`, immediate form (42_select_carry_divide.md R401). -/
def execSlctfI (idest : GReg) (scond : BReg) (src1 : GReg) (isrc2 : Imm9) (s : State) :
    Host.Outcome State Fault Refusal :=
  .next (s.writeR idest (if s.b scond then s.imm isrc2 else s.r src1))

/-- `addcg`: the low 32 bits of the sum and its carry (42_select_carry_divide.md R402). -/
def execAddcg (dest : GReg) (bdest : BReg) (scond : BReg) (src1 : GReg) (src2 : GReg) (s : State) :
    Host.Outcome State Fault Refusal :=
  .next ((s.writeR dest (BitVec.ofNat 32 (carrySum (s.r src1) (s.r src2) (s.b scond)))).writeB bdest
    (carryOut (s.r src1) (s.r src2) (s.b scond)))

/-- `divs`: one stage of a non-restoring division (42_select_carry_divide.md R403). -/
def execDivs (dest : GReg) (bdest : BReg) (scond : BReg) (src1 : GReg) (src2 : GReg) (s : State) :
    Host.Outcome State Fault Refusal :=
  .next ((s.writeR dest (divideWord (s.r src1) (s.r src2) (s.b scond))).writeB bdest (divideBit (s.r src1)))

end Sys2Proof.Machine
end

