-- ==== Sys2Proof/Machine/System.lean ====
section
/-! DEFINITION. PSW access, return from trap, system call and breakpoints (46_system.md R485 to R493). -/

namespace Sys2Proof.Machine

/-- An operand of zero makes `pswset` the `syncins` macro (46_system.md R485, 20_memory.md R187). -/
def syncinsEffect (v : Word) (s : State) : State :=
  if v = 0#32 then clearBuffer s else s

/-- `pswset` (46_system.md R485). -/
def execPswset (src2 : GReg) (s : State) : Host.Outcome State Fault Refusal :=
  privileged s (.next (syncinsEffect (s.r src2) { s with psw := pswWrite s.psw (s.psw ||| s.r src2), tlb := s.tlb.settle }))

/-- `pswclr` (46_system.md R486). -/
def execPswclr (src2 : GReg) (s : State) : Host.Outcome State Fault Refusal :=
  privileged s (.next { s with psw := pswWrite s.psw (s.psw &&& ~~~s.r src2), tlb := s.tlb.settle })

/-- `rfi` (46_system.md R488). -/
def execRfi (s : State) : Host.Outcome State Fault Refusal := privileged s (.next (returnFromTrap s))

/-- `syscall` (46_system.md R489). -/
def execSyscall (_sbrknum : Imm21) (s : State) : Host.Outcome State Fault Refusal := raised (.plain .syscall) s

/-- `sbrk` (46_system.md R490). -/
def execSbrk (_sbrknum : Imm21) (s : State) : Host.Outcome State Fault Refusal := raised (.plain .sbreak) s

/-- `break` (46_system.md R491). -/
def execBreakOp (s : State) : Host.Outcome State Fault Refusal := raised (.plain .illInst) s

end Sys2Proof.Machine
end

