-- ==== Sys2Proof/Machine/Dispatch.lean ====
section
/-! DEFINITION. One arm per instruction, each a direct call of its meaning. -/

namespace Sys2Proof.Machine

def exec (i : Instr) (s : State) : Host.Outcome State Fault Refusal :=
  match i with
  | .addR dest src1 src2 => Sys2Proof.Machine.execAddR dest src1 src2 s
  | .addI idest src1 isrc2 => Sys2Proof.Machine.execAddI idest src1 isrc2 s
  | .subR dest src1 src2 => Sys2Proof.Machine.execSubR dest src1 src2 s
  | .subI idest src1 isrc2 => Sys2Proof.Machine.execSubI idest src1 isrc2 s
  | .shlR dest src1 src2 => Sys2Proof.Machine.execShlR dest src1 src2 s
  | .shlI idest src1 isrc2 => Sys2Proof.Machine.execShlI idest src1 isrc2 s
  | .shrR dest src1 src2 => Sys2Proof.Machine.execShrR dest src1 src2 s
  | .shrI idest src1 isrc2 => Sys2Proof.Machine.execShrI idest src1 isrc2 s
  | .shruR dest src1 src2 => Sys2Proof.Machine.execShruR dest src1 src2 s
  | .shruI idest src1 isrc2 => Sys2Proof.Machine.execShruI idest src1 isrc2 s
  | .sh1addR dest src1 src2 => Sys2Proof.Machine.execSh1addR dest src1 src2 s
  | .sh1addI idest src1 isrc2 => Sys2Proof.Machine.execSh1addI idest src1 isrc2 s
  | .sh2addR dest src1 src2 => Sys2Proof.Machine.execSh2addR dest src1 src2 s
  | .sh2addI idest src1 isrc2 => Sys2Proof.Machine.execSh2addI idest src1 isrc2 s
  | .sh3addR dest src1 src2 => Sys2Proof.Machine.execSh3addR dest src1 src2 s
  | .sh3addI idest src1 isrc2 => Sys2Proof.Machine.execSh3addI idest src1 isrc2 s
  | .sh4addR dest src1 src2 => Sys2Proof.Machine.execSh4addR dest src1 src2 s
  | .sh4addI idest src1 isrc2 => Sys2Proof.Machine.execSh4addI idest src1 isrc2 s
  | .andR dest src1 src2 => Sys2Proof.Machine.execAndR dest src1 src2 s
  | .andI idest src1 isrc2 => Sys2Proof.Machine.execAndI idest src1 isrc2 s
  | .andcR dest src1 src2 => Sys2Proof.Machine.execAndcR dest src1 src2 s
  | .andcI idest src1 isrc2 => Sys2Proof.Machine.execAndcI idest src1 isrc2 s
  | .orR dest src1 src2 => Sys2Proof.Machine.execOrR dest src1 src2 s
  | .orI idest src1 isrc2 => Sys2Proof.Machine.execOrI idest src1 isrc2 s
  | .orcR dest src1 src2 => Sys2Proof.Machine.execOrcR dest src1 src2 s
  | .orcI idest src1 isrc2 => Sys2Proof.Machine.execOrcI idest src1 isrc2 s
  | .xorR dest src1 src2 => Sys2Proof.Machine.execXorR dest src1 src2 s
  | .xorI idest src1 isrc2 => Sys2Proof.Machine.execXorI idest src1 isrc2 s
  | .mullhusR nldest src1 src2 => Sys2Proof.Machine.execMullhusR nldest src1 src2 s
  | .mullhusI nlidest src1 isrc2 => Sys2Proof.Machine.execMullhusI nlidest src1 isrc2 s
  | .maxR dest src1 src2 => Sys2Proof.Machine.execMaxR dest src1 src2 s
  | .maxI idest src1 isrc2 => Sys2Proof.Machine.execMaxI idest src1 isrc2 s
  | .maxuR dest src1 src2 => Sys2Proof.Machine.execMaxuR dest src1 src2 s
  | .maxuI idest src1 isrc2 => Sys2Proof.Machine.execMaxuI idest src1 isrc2 s
  | .minR dest src1 src2 => Sys2Proof.Machine.execMinR dest src1 src2 s
  | .minI idest src1 isrc2 => Sys2Proof.Machine.execMinI idest src1 isrc2 s
  | .minuR dest src1 src2 => Sys2Proof.Machine.execMinuR dest src1 src2 s
  | .minuI idest src1 isrc2 => Sys2Proof.Machine.execMinuI idest src1 isrc2 s
  | .mulhhsR nldest src1 src2 => Sys2Proof.Machine.execMulhhsR nldest src1 src2 s
  | .mulhhsI nlidest src1 isrc2 => Sys2Proof.Machine.execMulhhsI nlidest src1 isrc2 s
  | .mullR nldest src1 src2 => Sys2Proof.Machine.execMullR nldest src1 src2 s
  | .mullI nlidest src1 isrc2 => Sys2Proof.Machine.execMullI nlidest src1 isrc2 s
  | .mulluR nldest src1 src2 => Sys2Proof.Machine.execMulluR nldest src1 src2 s
  | .mulluI nlidest src1 isrc2 => Sys2Proof.Machine.execMulluI nlidest src1 isrc2 s
  | .mulhR nldest src1 src2 => Sys2Proof.Machine.execMulhR nldest src1 src2 s
  | .mulhI nlidest src1 isrc2 => Sys2Proof.Machine.execMulhI nlidest src1 isrc2 s
  | .mulhuR nldest src1 src2 => Sys2Proof.Machine.execMulhuR nldest src1 src2 s
  | .mulhuI nlidest src1 isrc2 => Sys2Proof.Machine.execMulhuI nlidest src1 isrc2 s
  | .mulllR nldest src1 src2 => Sys2Proof.Machine.execMulllR nldest src1 src2 s
  | .mulllI nlidest src1 isrc2 => Sys2Proof.Machine.execMulllI nlidest src1 isrc2 s
  | .mullluR nldest src1 src2 => Sys2Proof.Machine.execMullluR nldest src1 src2 s
  | .mullluI nlidest src1 isrc2 => Sys2Proof.Machine.execMullluI nlidest src1 isrc2 s
  | .mullhR nldest src1 src2 => Sys2Proof.Machine.execMullhR nldest src1 src2 s
  | .mullhI nlidest src1 isrc2 => Sys2Proof.Machine.execMullhI nlidest src1 isrc2 s
  | .mullhuR nldest src1 src2 => Sys2Proof.Machine.execMullhuR nldest src1 src2 s
  | .mullhuI nlidest src1 isrc2 => Sys2Proof.Machine.execMullhuI nlidest src1 isrc2 s
  | .mulhhR nldest src1 src2 => Sys2Proof.Machine.execMulhhR nldest src1 src2 s
  | .mulhhI nlidest src1 isrc2 => Sys2Proof.Machine.execMulhhI nlidest src1 isrc2 s
  | .mulhhuR nldest src1 src2 => Sys2Proof.Machine.execMulhhuR nldest src1 src2 s
  | .mulhhuI nlidest src1 isrc2 => Sys2Proof.Machine.execMulhhuI nlidest src1 isrc2 s
  | .mulhsR nldest src1 src2 => Sys2Proof.Machine.execMulhsR nldest src1 src2 s
  | .mulhsI nlidest src1 isrc2 => Sys2Proof.Machine.execMulhsI nlidest src1 isrc2 s
  | .sxtb idest src1 => Sys2Proof.Machine.execSxtb idest src1 s
  | .sxth idest src1 => Sys2Proof.Machine.execSxth idest src1 s
  | .bswap idest src1 => Sys2Proof.Machine.execBswap idest src1 s
  | .zxth idest src1 => Sys2Proof.Machine.execZxth idest src1 s
  | .clz idest src1 => Sys2Proof.Machine.execClz idest src1 s
  | .cmpeqRR dest src1 src2 => Sys2Proof.Machine.execCmpeqRR dest src1 src2 s
  | .cmpeqBR bdest src1 src2 => Sys2Proof.Machine.execCmpeqBR bdest src1 src2 s
  | .cmpeqRI idest src1 isrc2 => Sys2Proof.Machine.execCmpeqRI idest src1 isrc2 s
  | .cmpeqBI ibdest src1 isrc2 => Sys2Proof.Machine.execCmpeqBI ibdest src1 isrc2 s
  | .cmpneRR dest src1 src2 => Sys2Proof.Machine.execCmpneRR dest src1 src2 s
  | .cmpneBR bdest src1 src2 => Sys2Proof.Machine.execCmpneBR bdest src1 src2 s
  | .cmpneRI idest src1 isrc2 => Sys2Proof.Machine.execCmpneRI idest src1 isrc2 s
  | .cmpneBI ibdest src1 isrc2 => Sys2Proof.Machine.execCmpneBI ibdest src1 isrc2 s
  | .cmpgeRR dest src1 src2 => Sys2Proof.Machine.execCmpgeRR dest src1 src2 s
  | .cmpgeBR bdest src1 src2 => Sys2Proof.Machine.execCmpgeBR bdest src1 src2 s
  | .cmpgeRI idest src1 isrc2 => Sys2Proof.Machine.execCmpgeRI idest src1 isrc2 s
  | .cmpgeBI ibdest src1 isrc2 => Sys2Proof.Machine.execCmpgeBI ibdest src1 isrc2 s
  | .cmpgeuRR dest src1 src2 => Sys2Proof.Machine.execCmpgeuRR dest src1 src2 s
  | .cmpgeuBR bdest src1 src2 => Sys2Proof.Machine.execCmpgeuBR bdest src1 src2 s
  | .cmpgeuRI idest src1 isrc2 => Sys2Proof.Machine.execCmpgeuRI idest src1 isrc2 s
  | .cmpgeuBI ibdest src1 isrc2 => Sys2Proof.Machine.execCmpgeuBI ibdest src1 isrc2 s
  | .cmpgtRR dest src1 src2 => Sys2Proof.Machine.execCmpgtRR dest src1 src2 s
  | .cmpgtBR bdest src1 src2 => Sys2Proof.Machine.execCmpgtBR bdest src1 src2 s
  | .cmpgtRI idest src1 isrc2 => Sys2Proof.Machine.execCmpgtRI idest src1 isrc2 s
  | .cmpgtBI ibdest src1 isrc2 => Sys2Proof.Machine.execCmpgtBI ibdest src1 isrc2 s
  | .cmpgtuRR dest src1 src2 => Sys2Proof.Machine.execCmpgtuRR dest src1 src2 s
  | .cmpgtuBR bdest src1 src2 => Sys2Proof.Machine.execCmpgtuBR bdest src1 src2 s
  | .cmpgtuRI idest src1 isrc2 => Sys2Proof.Machine.execCmpgtuRI idest src1 isrc2 s
  | .cmpgtuBI ibdest src1 isrc2 => Sys2Proof.Machine.execCmpgtuBI ibdest src1 isrc2 s
  | .cmpleRR dest src1 src2 => Sys2Proof.Machine.execCmpleRR dest src1 src2 s
  | .cmpleBR bdest src1 src2 => Sys2Proof.Machine.execCmpleBR bdest src1 src2 s
  | .cmpleRI idest src1 isrc2 => Sys2Proof.Machine.execCmpleRI idest src1 isrc2 s
  | .cmpleBI ibdest src1 isrc2 => Sys2Proof.Machine.execCmpleBI ibdest src1 isrc2 s
  | .cmpleuRR dest src1 src2 => Sys2Proof.Machine.execCmpleuRR dest src1 src2 s
  | .cmpleuBR bdest src1 src2 => Sys2Proof.Machine.execCmpleuBR bdest src1 src2 s
  | .cmpleuRI idest src1 isrc2 => Sys2Proof.Machine.execCmpleuRI idest src1 isrc2 s
  | .cmpleuBI ibdest src1 isrc2 => Sys2Proof.Machine.execCmpleuBI ibdest src1 isrc2 s
  | .cmpltRR dest src1 src2 => Sys2Proof.Machine.execCmpltRR dest src1 src2 s
  | .cmpltBR bdest src1 src2 => Sys2Proof.Machine.execCmpltBR bdest src1 src2 s
  | .cmpltRI idest src1 isrc2 => Sys2Proof.Machine.execCmpltRI idest src1 isrc2 s
  | .cmpltBI ibdest src1 isrc2 => Sys2Proof.Machine.execCmpltBI ibdest src1 isrc2 s
  | .cmpltuRR dest src1 src2 => Sys2Proof.Machine.execCmpltuRR dest src1 src2 s
  | .cmpltuBR bdest src1 src2 => Sys2Proof.Machine.execCmpltuBR bdest src1 src2 s
  | .cmpltuRI idest src1 isrc2 => Sys2Proof.Machine.execCmpltuRI idest src1 isrc2 s
  | .cmpltuBI ibdest src1 isrc2 => Sys2Proof.Machine.execCmpltuBI ibdest src1 isrc2 s
  | .andlRR dest src1 src2 => Sys2Proof.Machine.execAndlRR dest src1 src2 s
  | .andlBR bdest src1 src2 => Sys2Proof.Machine.execAndlBR bdest src1 src2 s
  | .andlRI idest src1 isrc2 => Sys2Proof.Machine.execAndlRI idest src1 isrc2 s
  | .andlBI ibdest src1 isrc2 => Sys2Proof.Machine.execAndlBI ibdest src1 isrc2 s
  | .nandlRR dest src1 src2 => Sys2Proof.Machine.execNandlRR dest src1 src2 s
  | .nandlBR bdest src1 src2 => Sys2Proof.Machine.execNandlBR bdest src1 src2 s
  | .nandlRI idest src1 isrc2 => Sys2Proof.Machine.execNandlRI idest src1 isrc2 s
  | .nandlBI ibdest src1 isrc2 => Sys2Proof.Machine.execNandlBI ibdest src1 isrc2 s
  | .orlRR dest src1 src2 => Sys2Proof.Machine.execOrlRR dest src1 src2 s
  | .orlBR bdest src1 src2 => Sys2Proof.Machine.execOrlBR bdest src1 src2 s
  | .orlRI idest src1 isrc2 => Sys2Proof.Machine.execOrlRI idest src1 isrc2 s
  | .orlBI ibdest src1 isrc2 => Sys2Proof.Machine.execOrlBI ibdest src1 isrc2 s
  | .norlRR dest src1 src2 => Sys2Proof.Machine.execNorlRR dest src1 src2 s
  | .norlBR bdest src1 src2 => Sys2Proof.Machine.execNorlBR bdest src1 src2 s
  | .norlRI idest src1 isrc2 => Sys2Proof.Machine.execNorlRI idest src1 isrc2 s
  | .norlBI ibdest src1 isrc2 => Sys2Proof.Machine.execNorlBI ibdest src1 isrc2 s
  | .mul32R nldest src1 src2 => Sys2Proof.Machine.execMul32R nldest src1 src2 s
  | .mul32I nlidest src1 isrc2 => Sys2Proof.Machine.execMul32I nlidest src1 isrc2 s
  | .mul64hR nldest src1 src2 => Sys2Proof.Machine.execMul64hR nldest src1 src2 s
  | .mul64hI nlidest src1 isrc2 => Sys2Proof.Machine.execMul64hI nlidest src1 isrc2 s
  | .mul64huR nldest src1 src2 => Sys2Proof.Machine.execMul64huR nldest src1 src2 s
  | .mul64huI nlidest src1 isrc2 => Sys2Proof.Machine.execMul64huI nlidest src1 isrc2 s
  | .mulfracR nldest src1 src2 => Sys2Proof.Machine.execMulfracR nldest src1 src2 s
  | .mulfracI nlidest src1 isrc2 => Sys2Proof.Machine.execMulfracI nlidest src1 isrc2 s
  | .slctR dest scond src1 src2 => Sys2Proof.Machine.execSlctR dest scond src1 src2 s
  | .slctI idest scond src1 isrc2 => Sys2Proof.Machine.execSlctI idest scond src1 isrc2 s
  | .slctfR dest scond src1 src2 => Sys2Proof.Machine.execSlctfR dest scond src1 src2 s
  | .slctfI idest scond src1 isrc2 => Sys2Proof.Machine.execSlctfI idest scond src1 isrc2 s
  | .addcg dest bdest scond src1 src2 => Sys2Proof.Machine.execAddcg dest bdest scond src1 src2 s
  | .divs dest bdest scond src1 src2 => Sys2Proof.Machine.execDivs dest bdest scond src1 src2 s
  | .imml imm => Sys2Proof.Machine.execImml imm s
  | .immr imm => Sys2Proof.Machine.execImmr imm s
  | .prgins => Sys2Proof.Machine.execPrgins s
  | .sbrk sbrknum => Sys2Proof.Machine.execSbrk sbrknum s
  | .syscall sbrknum => Sys2Proof.Machine.execSyscall sbrknum s
  | .breakOp => Sys2Proof.Machine.execBreakOp s
  | .ldw idest src1 isrc2 => Sys2Proof.Machine.execLdw idest src1 isrc2 s
  | .ldwD idest src1 isrc2 => Sys2Proof.Machine.execLdwD idest src1 isrc2 s
  | .ldh nlidest src1 isrc2 => Sys2Proof.Machine.execLdh nlidest src1 isrc2 s
  | .ldhD nlidest src1 isrc2 => Sys2Proof.Machine.execLdhD nlidest src1 isrc2 s
  | .ldhu nlidest src1 isrc2 => Sys2Proof.Machine.execLdhu nlidest src1 isrc2 s
  | .ldhuD nlidest src1 isrc2 => Sys2Proof.Machine.execLdhuD nlidest src1 isrc2 s
  | .ldb nlidest src1 isrc2 => Sys2Proof.Machine.execLdb nlidest src1 isrc2 s
  | .ldbD nlidest src1 isrc2 => Sys2Proof.Machine.execLdbD nlidest src1 isrc2 s
  | .ldbu nlidest src1 isrc2 => Sys2Proof.Machine.execLdbu nlidest src1 isrc2 s
  | .ldbuD nlidest src1 isrc2 => Sys2Proof.Machine.execLdbuD nlidest src1 isrc2 s
  | .stw src2 src1 isrc2 => Sys2Proof.Machine.execStw src2 src1 isrc2 s
  | .sth src2 src1 isrc2 => Sys2Proof.Machine.execSth src2 src1 isrc2 s
  | .stb src2 src1 isrc2 => Sys2Proof.Machine.execStb src2 src1 isrc2 s
  | .pft src1 isrc2 => Sys2Proof.Machine.execPft src1 isrc2 s
  | .prgadd src1 isrc2 => Sys2Proof.Machine.execPrgadd src1 isrc2 s
  | .prgset src1 isrc2 => Sys2Proof.Machine.execPrgset src1 isrc2 s
  | .sync => Sys2Proof.Machine.execSync s
  | .prginspg src1 isrc2 => Sys2Proof.Machine.execPrginspg src1 isrc2 s
  | .pswset src2 => Sys2Proof.Machine.execPswset src2 s
  | .pswclr src2 => Sys2Proof.Machine.execPswclr src2 s
  | .callImm btarg => Sys2Proof.Machine.execCallImm btarg s
  | .callLink => Sys2Proof.Machine.execCallLink s
  | .gotoImm btarg => Sys2Proof.Machine.execGotoImm btarg s
  | .gotoLink => Sys2Proof.Machine.execGotoLink s
  | .rfi => Sys2Proof.Machine.execRfi s
  | .br bcond btarg => Sys2Proof.Machine.execBr bcond btarg s
  | .brf bcond btarg => Sys2Proof.Machine.execBrf bcond btarg s

end Sys2Proof.Machine
end

