-- ==== Sys2Proof/WellFormed.lean ====
section
/-! DEFINITION. Which instructions are well formed by themselves. The one restriction of a single operation is
30_encoding.md R319: a destination field NLDEST or NLIDEST is not 63. Restrictions on the place in a bundle and on
the company in it are checks of bundles (Sys2Proof/Machine/Bundle.lean). -/

namespace Sys2Proof

/-- A destination that must not be the link register R63 (30_encoding.md R319, 10_state.md R39). -/
def notLink (r : GReg) : Bool := r != 63#6

/-- `i` obeys 30_encoding.md R319. -/
def Instr.wellFormed (i : Instr) : Bool :=
  match i with
  | .addR _ _ _ => true
  | .addI _ _ _ => true
  | .subR _ _ _ => true
  | .subI _ _ _ => true
  | .shlR _ _ _ => true
  | .shlI _ _ _ => true
  | .shrR _ _ _ => true
  | .shrI _ _ _ => true
  | .shruR _ _ _ => true
  | .shruI _ _ _ => true
  | .sh1addR _ _ _ => true
  | .sh1addI _ _ _ => true
  | .sh2addR _ _ _ => true
  | .sh2addI _ _ _ => true
  | .sh3addR _ _ _ => true
  | .sh3addI _ _ _ => true
  | .sh4addR _ _ _ => true
  | .sh4addI _ _ _ => true
  | .andR _ _ _ => true
  | .andI _ _ _ => true
  | .andcR _ _ _ => true
  | .andcI _ _ _ => true
  | .orR _ _ _ => true
  | .orI _ _ _ => true
  | .orcR _ _ _ => true
  | .orcI _ _ _ => true
  | .xorR _ _ _ => true
  | .xorI _ _ _ => true
  | .mullhusR nldest _ _ => notLink nldest
  | .mullhusI nlidest _ _ => notLink nlidest
  | .maxR _ _ _ => true
  | .maxI _ _ _ => true
  | .maxuR _ _ _ => true
  | .maxuI _ _ _ => true
  | .minR _ _ _ => true
  | .minI _ _ _ => true
  | .minuR _ _ _ => true
  | .minuI _ _ _ => true
  | .mulhhsR nldest _ _ => notLink nldest
  | .mulhhsI nlidest _ _ => notLink nlidest
  | .mullR nldest _ _ => notLink nldest
  | .mullI nlidest _ _ => notLink nlidest
  | .mulluR nldest _ _ => notLink nldest
  | .mulluI nlidest _ _ => notLink nlidest
  | .mulhR nldest _ _ => notLink nldest
  | .mulhI nlidest _ _ => notLink nlidest
  | .mulhuR nldest _ _ => notLink nldest
  | .mulhuI nlidest _ _ => notLink nlidest
  | .mulllR nldest _ _ => notLink nldest
  | .mulllI nlidest _ _ => notLink nlidest
  | .mullluR nldest _ _ => notLink nldest
  | .mullluI nlidest _ _ => notLink nlidest
  | .mullhR nldest _ _ => notLink nldest
  | .mullhI nlidest _ _ => notLink nlidest
  | .mullhuR nldest _ _ => notLink nldest
  | .mullhuI nlidest _ _ => notLink nlidest
  | .mulhhR nldest _ _ => notLink nldest
  | .mulhhI nlidest _ _ => notLink nlidest
  | .mulhhuR nldest _ _ => notLink nldest
  | .mulhhuI nlidest _ _ => notLink nlidest
  | .mulhsR nldest _ _ => notLink nldest
  | .mulhsI nlidest _ _ => notLink nlidest
  | .sxtb _ _ => true
  | .sxth _ _ => true
  | .bswap _ _ => true
  | .zxth _ _ => true
  | .clz _ _ => true
  | .cmpeqRR _ _ _ => true
  | .cmpeqBR _ _ _ => true
  | .cmpeqRI _ _ _ => true
  | .cmpeqBI _ _ _ => true
  | .cmpneRR _ _ _ => true
  | .cmpneBR _ _ _ => true
  | .cmpneRI _ _ _ => true
  | .cmpneBI _ _ _ => true
  | .cmpgeRR _ _ _ => true
  | .cmpgeBR _ _ _ => true
  | .cmpgeRI _ _ _ => true
  | .cmpgeBI _ _ _ => true
  | .cmpgeuRR _ _ _ => true
  | .cmpgeuBR _ _ _ => true
  | .cmpgeuRI _ _ _ => true
  | .cmpgeuBI _ _ _ => true
  | .cmpgtRR _ _ _ => true
  | .cmpgtBR _ _ _ => true
  | .cmpgtRI _ _ _ => true
  | .cmpgtBI _ _ _ => true
  | .cmpgtuRR _ _ _ => true
  | .cmpgtuBR _ _ _ => true
  | .cmpgtuRI _ _ _ => true
  | .cmpgtuBI _ _ _ => true
  | .cmpleRR _ _ _ => true
  | .cmpleBR _ _ _ => true
  | .cmpleRI _ _ _ => true
  | .cmpleBI _ _ _ => true
  | .cmpleuRR _ _ _ => true
  | .cmpleuBR _ _ _ => true
  | .cmpleuRI _ _ _ => true
  | .cmpleuBI _ _ _ => true
  | .cmpltRR _ _ _ => true
  | .cmpltBR _ _ _ => true
  | .cmpltRI _ _ _ => true
  | .cmpltBI _ _ _ => true
  | .cmpltuRR _ _ _ => true
  | .cmpltuBR _ _ _ => true
  | .cmpltuRI _ _ _ => true
  | .cmpltuBI _ _ _ => true
  | .andlRR _ _ _ => true
  | .andlBR _ _ _ => true
  | .andlRI _ _ _ => true
  | .andlBI _ _ _ => true
  | .nandlRR _ _ _ => true
  | .nandlBR _ _ _ => true
  | .nandlRI _ _ _ => true
  | .nandlBI _ _ _ => true
  | .orlRR _ _ _ => true
  | .orlBR _ _ _ => true
  | .orlRI _ _ _ => true
  | .orlBI _ _ _ => true
  | .norlRR _ _ _ => true
  | .norlBR _ _ _ => true
  | .norlRI _ _ _ => true
  | .norlBI _ _ _ => true
  | .mul32R nldest _ _ => notLink nldest
  | .mul32I nlidest _ _ => notLink nlidest
  | .mul64hR nldest _ _ => notLink nldest
  | .mul64hI nlidest _ _ => notLink nlidest
  | .mul64huR nldest _ _ => notLink nldest
  | .mul64huI nlidest _ _ => notLink nlidest
  | .mulfracR nldest _ _ => notLink nldest
  | .mulfracI nlidest _ _ => notLink nlidest
  | .slctR _ _ _ _ => true
  | .slctI _ _ _ _ => true
  | .slctfR _ _ _ _ => true
  | .slctfI _ _ _ _ => true
  | .addcg _ _ _ _ _ => true
  | .divs _ _ _ _ _ => true
  | .imml _ => true
  | .immr _ => true
  | .prgins => true
  | .sbrk _ => true
  | .syscall _ => true
  | .breakOp => true
  | .ldw _ _ _ => true
  | .ldwD _ _ _ => true
  | .ldh nlidest _ _ => notLink nlidest
  | .ldhD nlidest _ _ => notLink nlidest
  | .ldhu nlidest _ _ => notLink nlidest
  | .ldhuD nlidest _ _ => notLink nlidest
  | .ldb nlidest _ _ => notLink nlidest
  | .ldbD nlidest _ _ => notLink nlidest
  | .ldbu nlidest _ _ => notLink nlidest
  | .ldbuD nlidest _ _ => notLink nlidest
  | .stw _ _ _ => true
  | .sth _ _ _ => true
  | .stb _ _ _ => true
  | .pft _ _ => true
  | .prgadd _ _ => true
  | .prgset _ _ => true
  | .sync => true
  | .prginspg _ _ => true
  | .pswset _ => true
  | .pswclr _ => true
  | .callImm _ => true
  | .callLink => true
  | .gotoImm _ => true
  | .gotoLink => true
  | .rfi => true
  | .br _ _ => true
  | .brf _ _ => true

/-- The proposition that `i` is well formed. -/
abbrev Instr.WellFormed (i : Instr) : Prop := i.wellFormed = true

end Sys2Proof
end

