-- ==== Sys2Proof/Decode.lean ====
section
/-! DEFINITION. The syllable decoder of 30_encoding.md R296 to R299 and R306, total on every word and rejecting by
name, and after it the encoder, written from the same formats. The stop bit (bit 31) is no part of an operation,
but for `sbrk`, whose row requires it. -/

namespace Sys2Proof

/-- Why a word is no operation (30_encoding.md R311, R313, R321). -/
inductive DecodeError where
  /-- Bit 30 is set (R313). -/
  | bit30
  /-- A reserved field of the row of this mnemonic or format is not zero (R313). -/
  | reservedField (row : String)
  /-- The opcode bits of this format (bits 29 and 28, R291) name no operation. -/
  | unallocated (format : Nat)
  /-- `sbrk` without its stop bit (R321). -/
  | sbrkStopBit
deriving DecidableEq, Repr

/-! ## Fields (30_encoding.md R294) -/

/-- Bits [lo + width - 1 : lo] of a word. -/
def bitsOf (w : Word) (lo width : Nat) : BitVec width := w.extractLsb' lo width

/-- SRC1 [5:0]. -/
def fieldSrc1 (w : Word) : GReg := bitsOf w 0 6
/-- SRC2 [11:6]. -/
def fieldSrc2 (w : Word) : GReg := bitsOf w 6 6
/-- DEST and NLDEST [17:12]. -/
def fieldDest (w : Word) : GReg := bitsOf w 12 6
/-- IDEST and NLIDEST [11:6]. -/
def fieldIdest (w : Word) : GReg := bitsOf w 6 6
/-- BDEST [20:18]. -/
def fieldBdest (w : Word) : BReg := bitsOf w 18 3
/-- IBDEST [8:6]. -/
def fieldIbdest (w : Word) : BReg := bitsOf w 6 3
/-- SCOND [23:21]. -/
def fieldScond (w : Word) : BReg := bitsOf w 21 3
/-- BCOND [25:23]. -/
def fieldBcond (w : Word) : BReg := bitsOf w 23 3
/-- ISRC2 [20:12]. -/
def fieldIsrc2 (w : Word) : Imm9 := bitsOf w 12 9
/-- IMM and BTARG [22:0]. -/
def fieldImm (w : Word) : Imm23 := bitsOf w 0 23
/-- SBRKNUM [20:0]. -/
def fieldSbrknum (w : Word) : Imm21 := bitsOf w 0 21

/-- `i`, unless the reserved bits [lo + width - 1 : lo] of `w` are not all zero. -/
def needZero (w : Word) (lo width : Nat) (row : String) (i : Instr) : Except DecodeError Instr :=
  if bitsOf w lo width = 0#width then .ok i else .error (.reservedField row)

/-! ## Format 00: integer, compare, multiply (30_encoding.md R297) -/

/-- Int3R: bits 27 and 26 are 0, opcode [25:21]. -/
def decodeInt3R (w : Word) : Except DecodeError Instr :=
  match (bitsOf w 21 5).toNat with
  | 0 => needZero w 18 3 "add" (.addR (fieldDest w) (fieldSrc1 w) (fieldSrc2 w))
  | 1 => needZero w 18 3 "sub" (.subR (fieldDest w) (fieldSrc1 w) (fieldSrc2 w))
  | 2 => needZero w 18 3 "shl" (.shlR (fieldDest w) (fieldSrc1 w) (fieldSrc2 w))
  | 3 => needZero w 18 3 "shr" (.shrR (fieldDest w) (fieldSrc1 w) (fieldSrc2 w))
  | 4 => needZero w 18 3 "shru" (.shruR (fieldDest w) (fieldSrc1 w) (fieldSrc2 w))
  | 5 => needZero w 18 3 "sh1add" (.sh1addR (fieldDest w) (fieldSrc1 w) (fieldSrc2 w))
  | 6 => needZero w 18 3 "sh2add" (.sh2addR (fieldDest w) (fieldSrc1 w) (fieldSrc2 w))
  | 7 => needZero w 18 3 "sh3add" (.sh3addR (fieldDest w) (fieldSrc1 w) (fieldSrc2 w))
  | 8 => needZero w 18 3 "sh4add" (.sh4addR (fieldDest w) (fieldSrc1 w) (fieldSrc2 w))
  | 9 => needZero w 18 3 "and" (.andR (fieldDest w) (fieldSrc1 w) (fieldSrc2 w))
  | 10 => needZero w 18 3 "andc" (.andcR (fieldDest w) (fieldSrc1 w) (fieldSrc2 w))
  | 11 => needZero w 18 3 "or" (.orR (fieldDest w) (fieldSrc1 w) (fieldSrc2 w))
  | 12 => needZero w 18 3 "orc" (.orcR (fieldDest w) (fieldSrc1 w) (fieldSrc2 w))
  | 13 => needZero w 18 3 "xor" (.xorR (fieldDest w) (fieldSrc1 w) (fieldSrc2 w))
  | 15 => needZero w 18 3 "mullhus" (.mullhusR (fieldDest w) (fieldSrc1 w) (fieldSrc2 w))
  | 16 => needZero w 18 3 "max" (.maxR (fieldDest w) (fieldSrc1 w) (fieldSrc2 w))
  | 17 => needZero w 18 3 "maxu" (.maxuR (fieldDest w) (fieldSrc1 w) (fieldSrc2 w))
  | 18 => needZero w 18 3 "min" (.minR (fieldDest w) (fieldSrc1 w) (fieldSrc2 w))
  | 19 => needZero w 18 3 "minu" (.minuR (fieldDest w) (fieldSrc1 w) (fieldSrc2 w))
  | 20 => needZero w 18 3 "mulhhs" (.mulhhsR (fieldDest w) (fieldSrc1 w) (fieldSrc2 w))
  | 21 => needZero w 18 3 "mull" (.mullR (fieldDest w) (fieldSrc1 w) (fieldSrc2 w))
  | 22 => needZero w 18 3 "mullu" (.mulluR (fieldDest w) (fieldSrc1 w) (fieldSrc2 w))
  | 23 => needZero w 18 3 "mulh" (.mulhR (fieldDest w) (fieldSrc1 w) (fieldSrc2 w))
  | 24 => needZero w 18 3 "mulhu" (.mulhuR (fieldDest w) (fieldSrc1 w) (fieldSrc2 w))
  | 25 => needZero w 18 3 "mulll" (.mulllR (fieldDest w) (fieldSrc1 w) (fieldSrc2 w))
  | 26 => needZero w 18 3 "mulllu" (.mullluR (fieldDest w) (fieldSrc1 w) (fieldSrc2 w))
  | 27 => needZero w 18 3 "mullh" (.mullhR (fieldDest w) (fieldSrc1 w) (fieldSrc2 w))
  | 28 => needZero w 18 3 "mullhu" (.mullhuR (fieldDest w) (fieldSrc1 w) (fieldSrc2 w))
  | 29 => needZero w 18 3 "mulhh" (.mulhhR (fieldDest w) (fieldSrc1 w) (fieldSrc2 w))
  | 30 => needZero w 18 3 "mulhhu" (.mulhhuR (fieldDest w) (fieldSrc1 w) (fieldSrc2 w))
  | 31 => needZero w 18 3 "mulhs" (.mulhsR (fieldDest w) (fieldSrc1 w) (fieldSrc2 w))
  | _ => .error (.unallocated 0)

/-- Monadic: opcode 01110 of Int3I, sub-opcode [20:12]. -/
def decodeMonadic (w : Word) : Except DecodeError Instr :=
  match (bitsOf w 12 9).toNat with
  | 0 => .ok (.sxtb (fieldIdest w) (fieldSrc1 w))
  | 1 => .ok (.sxth (fieldIdest w) (fieldSrc1 w))
  | 2 => .ok (.bswap (fieldIdest w) (fieldSrc1 w))
  | 3 => .ok (.zxth (fieldIdest w) (fieldSrc1 w))
  | 4 => .ok (.clz (fieldIdest w) (fieldSrc1 w))
  | _ => .error (.unallocated 0)

/-- Int3I: bit 27 is 1, bit 26 is 0, opcode [25:21]; opcode 01110 is the Monadic group. -/
def decodeInt3I (w : Word) : Except DecodeError Instr :=
  match (bitsOf w 21 5).toNat with
  | 0 => .ok (.addI (fieldIdest w) (fieldSrc1 w) (fieldIsrc2 w))
  | 1 => .ok (.subI (fieldIdest w) (fieldSrc1 w) (fieldIsrc2 w))
  | 2 => .ok (.shlI (fieldIdest w) (fieldSrc1 w) (fieldIsrc2 w))
  | 3 => .ok (.shrI (fieldIdest w) (fieldSrc1 w) (fieldIsrc2 w))
  | 4 => .ok (.shruI (fieldIdest w) (fieldSrc1 w) (fieldIsrc2 w))
  | 5 => .ok (.sh1addI (fieldIdest w) (fieldSrc1 w) (fieldIsrc2 w))
  | 6 => .ok (.sh2addI (fieldIdest w) (fieldSrc1 w) (fieldIsrc2 w))
  | 7 => .ok (.sh3addI (fieldIdest w) (fieldSrc1 w) (fieldIsrc2 w))
  | 8 => .ok (.sh4addI (fieldIdest w) (fieldSrc1 w) (fieldIsrc2 w))
  | 9 => .ok (.andI (fieldIdest w) (fieldSrc1 w) (fieldIsrc2 w))
  | 10 => .ok (.andcI (fieldIdest w) (fieldSrc1 w) (fieldIsrc2 w))
  | 11 => .ok (.orI (fieldIdest w) (fieldSrc1 w) (fieldIsrc2 w))
  | 12 => .ok (.orcI (fieldIdest w) (fieldSrc1 w) (fieldIsrc2 w))
  | 13 => .ok (.xorI (fieldIdest w) (fieldSrc1 w) (fieldIsrc2 w))
  | 14 => decodeMonadic w
  | 15 => .ok (.mullhusI (fieldIdest w) (fieldSrc1 w) (fieldIsrc2 w))
  | 16 => .ok (.maxI (fieldIdest w) (fieldSrc1 w) (fieldIsrc2 w))
  | 17 => .ok (.maxuI (fieldIdest w) (fieldSrc1 w) (fieldIsrc2 w))
  | 18 => .ok (.minI (fieldIdest w) (fieldSrc1 w) (fieldIsrc2 w))
  | 19 => .ok (.minuI (fieldIdest w) (fieldSrc1 w) (fieldIsrc2 w))
  | 20 => .ok (.mulhhsI (fieldIdest w) (fieldSrc1 w) (fieldIsrc2 w))
  | 21 => .ok (.mullI (fieldIdest w) (fieldSrc1 w) (fieldIsrc2 w))
  | 22 => .ok (.mulluI (fieldIdest w) (fieldSrc1 w) (fieldIsrc2 w))
  | 23 => .ok (.mulhI (fieldIdest w) (fieldSrc1 w) (fieldIsrc2 w))
  | 24 => .ok (.mulhuI (fieldIdest w) (fieldSrc1 w) (fieldIsrc2 w))
  | 25 => .ok (.mulllI (fieldIdest w) (fieldSrc1 w) (fieldIsrc2 w))
  | 26 => .ok (.mullluI (fieldIdest w) (fieldSrc1 w) (fieldIsrc2 w))
  | 27 => .ok (.mullhI (fieldIdest w) (fieldSrc1 w) (fieldIsrc2 w))
  | 28 => .ok (.mullhuI (fieldIdest w) (fieldSrc1 w) (fieldIsrc2 w))
  | 29 => .ok (.mulhhI (fieldIdest w) (fieldSrc1 w) (fieldIsrc2 w))
  | 30 => .ok (.mulhhuI (fieldIdest w) (fieldSrc1 w) (fieldIsrc2 w))
  | 31 => .ok (.mulhsI (fieldIdest w) (fieldSrc1 w) (fieldIsrc2 w))
  | _ => .error (.unallocated 0)

/-- Cmp3 and Mul64 register forms: bit 27 is 0, bit 26 is 1, opcode [25:21]; bit 25 is the branch destination. -/
def decodeCmpR (w : Word) : Except DecodeError Instr :=
  match (bitsOf w 21 5).toNat with
  | 0 => needZero w 18 3 "cmpeq" (.cmpeqRR (fieldDest w) (fieldSrc1 w) (fieldSrc2 w))
  | 1 => needZero w 18 3 "cmpne" (.cmpneRR (fieldDest w) (fieldSrc1 w) (fieldSrc2 w))
  | 2 => needZero w 18 3 "cmpge" (.cmpgeRR (fieldDest w) (fieldSrc1 w) (fieldSrc2 w))
  | 3 => needZero w 18 3 "cmpgeu" (.cmpgeuRR (fieldDest w) (fieldSrc1 w) (fieldSrc2 w))
  | 4 => needZero w 18 3 "cmpgt" (.cmpgtRR (fieldDest w) (fieldSrc1 w) (fieldSrc2 w))
  | 5 => needZero w 18 3 "cmpgtu" (.cmpgtuRR (fieldDest w) (fieldSrc1 w) (fieldSrc2 w))
  | 6 => needZero w 18 3 "cmple" (.cmpleRR (fieldDest w) (fieldSrc1 w) (fieldSrc2 w))
  | 7 => needZero w 18 3 "cmpleu" (.cmpleuRR (fieldDest w) (fieldSrc1 w) (fieldSrc2 w))
  | 8 => needZero w 18 3 "cmplt" (.cmpltRR (fieldDest w) (fieldSrc1 w) (fieldSrc2 w))
  | 9 => needZero w 18 3 "cmpltu" (.cmpltuRR (fieldDest w) (fieldSrc1 w) (fieldSrc2 w))
  | 10 => needZero w 18 3 "andl" (.andlRR (fieldDest w) (fieldSrc1 w) (fieldSrc2 w))
  | 11 => needZero w 18 3 "nandl" (.nandlRR (fieldDest w) (fieldSrc1 w) (fieldSrc2 w))
  | 12 => needZero w 18 3 "orl" (.orlRR (fieldDest w) (fieldSrc1 w) (fieldSrc2 w))
  | 13 => needZero w 18 3 "norl" (.norlRR (fieldDest w) (fieldSrc1 w) (fieldSrc2 w))
  | 14 => needZero w 18 3 "mul32" (.mul32R (fieldDest w) (fieldSrc1 w) (fieldSrc2 w))
  | 15 => needZero w 18 3 "mul64h" (.mul64hR (fieldDest w) (fieldSrc1 w) (fieldSrc2 w))
  | 16 => needZero w 12 6 "cmpeq" (.cmpeqBR (fieldBdest w) (fieldSrc1 w) (fieldSrc2 w))
  | 17 => needZero w 12 6 "cmpne" (.cmpneBR (fieldBdest w) (fieldSrc1 w) (fieldSrc2 w))
  | 18 => needZero w 12 6 "cmpge" (.cmpgeBR (fieldBdest w) (fieldSrc1 w) (fieldSrc2 w))
  | 19 => needZero w 12 6 "cmpgeu" (.cmpgeuBR (fieldBdest w) (fieldSrc1 w) (fieldSrc2 w))
  | 20 => needZero w 12 6 "cmpgt" (.cmpgtBR (fieldBdest w) (fieldSrc1 w) (fieldSrc2 w))
  | 21 => needZero w 12 6 "cmpgtu" (.cmpgtuBR (fieldBdest w) (fieldSrc1 w) (fieldSrc2 w))
  | 22 => needZero w 12 6 "cmple" (.cmpleBR (fieldBdest w) (fieldSrc1 w) (fieldSrc2 w))
  | 23 => needZero w 12 6 "cmpleu" (.cmpleuBR (fieldBdest w) (fieldSrc1 w) (fieldSrc2 w))
  | 24 => needZero w 12 6 "cmplt" (.cmpltBR (fieldBdest w) (fieldSrc1 w) (fieldSrc2 w))
  | 25 => needZero w 12 6 "cmpltu" (.cmpltuBR (fieldBdest w) (fieldSrc1 w) (fieldSrc2 w))
  | 26 => needZero w 12 6 "andl" (.andlBR (fieldBdest w) (fieldSrc1 w) (fieldSrc2 w))
  | 27 => needZero w 12 6 "nandl" (.nandlBR (fieldBdest w) (fieldSrc1 w) (fieldSrc2 w))
  | 28 => needZero w 12 6 "orl" (.orlBR (fieldBdest w) (fieldSrc1 w) (fieldSrc2 w))
  | 29 => needZero w 12 6 "norl" (.norlBR (fieldBdest w) (fieldSrc1 w) (fieldSrc2 w))
  | 30 => needZero w 18 3 "mul64hu" (.mul64huR (fieldDest w) (fieldSrc1 w) (fieldSrc2 w))
  | 31 => needZero w 18 3 "mulfrac" (.mulfracR (fieldDest w) (fieldSrc1 w) (fieldSrc2 w))
  | _ => .error (.unallocated 0)

/-- Cmp3 and Mul64 immediate forms: bits 27 and 26 are 1, opcode [25:21]. -/
def decodeCmpI (w : Word) : Except DecodeError Instr :=
  match (bitsOf w 21 5).toNat with
  | 0 => .ok (.cmpeqRI (fieldIdest w) (fieldSrc1 w) (fieldIsrc2 w))
  | 1 => .ok (.cmpneRI (fieldIdest w) (fieldSrc1 w) (fieldIsrc2 w))
  | 2 => .ok (.cmpgeRI (fieldIdest w) (fieldSrc1 w) (fieldIsrc2 w))
  | 3 => .ok (.cmpgeuRI (fieldIdest w) (fieldSrc1 w) (fieldIsrc2 w))
  | 4 => .ok (.cmpgtRI (fieldIdest w) (fieldSrc1 w) (fieldIsrc2 w))
  | 5 => .ok (.cmpgtuRI (fieldIdest w) (fieldSrc1 w) (fieldIsrc2 w))
  | 6 => .ok (.cmpleRI (fieldIdest w) (fieldSrc1 w) (fieldIsrc2 w))
  | 7 => .ok (.cmpleuRI (fieldIdest w) (fieldSrc1 w) (fieldIsrc2 w))
  | 8 => .ok (.cmpltRI (fieldIdest w) (fieldSrc1 w) (fieldIsrc2 w))
  | 9 => .ok (.cmpltuRI (fieldIdest w) (fieldSrc1 w) (fieldIsrc2 w))
  | 10 => .ok (.andlRI (fieldIdest w) (fieldSrc1 w) (fieldIsrc2 w))
  | 11 => .ok (.nandlRI (fieldIdest w) (fieldSrc1 w) (fieldIsrc2 w))
  | 12 => .ok (.orlRI (fieldIdest w) (fieldSrc1 w) (fieldIsrc2 w))
  | 13 => .ok (.norlRI (fieldIdest w) (fieldSrc1 w) (fieldIsrc2 w))
  | 14 => .ok (.mul32I (fieldIdest w) (fieldSrc1 w) (fieldIsrc2 w))
  | 15 => .ok (.mul64hI (fieldIdest w) (fieldSrc1 w) (fieldIsrc2 w))
  | 16 => needZero w 9 3 "cmpeq" (.cmpeqBI (fieldIbdest w) (fieldSrc1 w) (fieldIsrc2 w))
  | 17 => needZero w 9 3 "cmpne" (.cmpneBI (fieldIbdest w) (fieldSrc1 w) (fieldIsrc2 w))
  | 18 => needZero w 9 3 "cmpge" (.cmpgeBI (fieldIbdest w) (fieldSrc1 w) (fieldIsrc2 w))
  | 19 => needZero w 9 3 "cmpgeu" (.cmpgeuBI (fieldIbdest w) (fieldSrc1 w) (fieldIsrc2 w))
  | 20 => needZero w 9 3 "cmpgt" (.cmpgtBI (fieldIbdest w) (fieldSrc1 w) (fieldIsrc2 w))
  | 21 => needZero w 9 3 "cmpgtu" (.cmpgtuBI (fieldIbdest w) (fieldSrc1 w) (fieldIsrc2 w))
  | 22 => needZero w 9 3 "cmple" (.cmpleBI (fieldIbdest w) (fieldSrc1 w) (fieldIsrc2 w))
  | 23 => needZero w 9 3 "cmpleu" (.cmpleuBI (fieldIbdest w) (fieldSrc1 w) (fieldIsrc2 w))
  | 24 => needZero w 9 3 "cmplt" (.cmpltBI (fieldIbdest w) (fieldSrc1 w) (fieldIsrc2 w))
  | 25 => needZero w 9 3 "cmpltu" (.cmpltuBI (fieldIbdest w) (fieldSrc1 w) (fieldIsrc2 w))
  | 26 => needZero w 9 3 "andl" (.andlBI (fieldIbdest w) (fieldSrc1 w) (fieldIsrc2 w))
  | 27 => needZero w 9 3 "nandl" (.nandlBI (fieldIbdest w) (fieldSrc1 w) (fieldIsrc2 w))
  | 28 => needZero w 9 3 "orl" (.orlBI (fieldIbdest w) (fieldSrc1 w) (fieldIsrc2 w))
  | 29 => needZero w 9 3 "norl" (.norlBI (fieldIbdest w) (fieldSrc1 w) (fieldIsrc2 w))
  | 30 => .ok (.mul64huI (fieldIdest w) (fieldSrc1 w) (fieldIsrc2 w))
  | 31 => .ok (.mulfracI (fieldIdest w) (fieldSrc1 w) (fieldIsrc2 w))
  | _ => .error (.unallocated 0)

/-- Format 00: bit 27 selects the immediate form, bit 26 the Cmp3/Mul64 group. -/
def decodeFormat00 (w : Word) : Except DecodeError Instr :=
  match (bitsOf w 26 2).toNat with
  | 0 => decodeInt3R w
  | 1 => decodeCmpR w
  | 2 => decodeInt3I w
  | _ => decodeCmpI w

/-! ## Format 01: extensions, selects, extended arithmetic, system (30_encoding.md R298) -/

/-- Bits [27:24] = 1111: `prgins`, `sbrk`, `syscall`, `break` by bits [23:21]. -/
def decodeSystem (w : Word) : Except DecodeError Instr :=
  match (bitsOf w 21 3).toNat with
  | 4 => needZero w 0 21 "prgins" .prgins
  | 5 => if bitsOf w 31 1 = 1#1 then .ok (.sbrk (fieldSbrknum w)) else .error .sbrkStopBit
  | 6 => .ok (.syscall (fieldSbrknum w))
  | 7 => needZero w 0 21 "break" .breakOp
  | _ => .error (.unallocated 1)

/-- Format 01 by bits [27:24]; bit 23 distinguishes `imml` and `immr`. -/
def decodeFormat01 (w : Word) : Except DecodeError Instr :=
  match (bitsOf w 24 4).toNat with
  | 0 => needZero w 18 3 "slct" (.slctR (fieldDest w) (fieldScond w) (fieldSrc1 w) (fieldSrc2 w))
  | 1 => needZero w 18 3 "slctf" (.slctfR (fieldDest w) (fieldScond w) (fieldSrc1 w) (fieldSrc2 w))
  | 2 => .ok (.addcg (fieldDest w) (fieldBdest w) (fieldScond w) (fieldSrc1 w) (fieldSrc2 w))
  | 4 => .ok (.divs (fieldDest w) (fieldBdest w) (fieldScond w) (fieldSrc1 w) (fieldSrc2 w))
  | 5 => if bitsOf w 23 1 = 1#1 then .ok (.immr (fieldImm w)) else .ok (.imml (fieldImm w))
  | 8 => .ok (.slctI (fieldIdest w) (fieldScond w) (fieldSrc1 w) (fieldIsrc2 w))
  | 9 => .ok (.slctfI (fieldIdest w) (fieldScond w) (fieldSrc1 w) (fieldIsrc2 w))
  | 15 => decodeSystem w
  | _ => .error (.unallocated 1)

/-! ## Formats 10 and 11: memory and control transfer (30_encoding.md R299) -/

/-- The operation of format 10 by bits [27:23], reserved bits [22:21] apart. -/
def decodeMemory (w : Word) : Except DecodeError Instr :=
  match (bitsOf w 23 5).toNat with
  | 0 => .ok (.ldw (fieldIdest w) (fieldSrc1 w) (fieldIsrc2 w))
  | 1 => .ok (.ldwD (fieldIdest w) (fieldSrc1 w) (fieldIsrc2 w))
  | 2 => .ok (.ldh (fieldIdest w) (fieldSrc1 w) (fieldIsrc2 w))
  | 3 => .ok (.ldhD (fieldIdest w) (fieldSrc1 w) (fieldIsrc2 w))
  | 4 => .ok (.ldhu (fieldIdest w) (fieldSrc1 w) (fieldIsrc2 w))
  | 5 => .ok (.ldhuD (fieldIdest w) (fieldSrc1 w) (fieldIsrc2 w))
  | 6 => .ok (.ldb (fieldIdest w) (fieldSrc1 w) (fieldIsrc2 w))
  | 7 => .ok (.ldbD (fieldIdest w) (fieldSrc1 w) (fieldIsrc2 w))
  | 8 => .ok (.ldbu (fieldIdest w) (fieldSrc1 w) (fieldIsrc2 w))
  | 9 => .ok (.ldbuD (fieldIdest w) (fieldSrc1 w) (fieldIsrc2 w))
  | 10 => .ok (.stw (fieldSrc2 w) (fieldSrc1 w) (fieldIsrc2 w))
  | 11 => .ok (.sth (fieldSrc2 w) (fieldSrc1 w) (fieldIsrc2 w))
  | 12 => .ok (.stb (fieldSrc2 w) (fieldSrc1 w) (fieldIsrc2 w))
  | 13 => needZero w 6 6 "pft" (.pft (fieldSrc1 w) (fieldIsrc2 w))
  | 14 => needZero w 6 6 "prgadd" (.prgadd (fieldSrc1 w) (fieldIsrc2 w))
  | 15 => needZero w 6 6 "prgset" (.prgset (fieldSrc1 w) (fieldIsrc2 w))
  | 16 => needZero w 0 21 "sync" .sync
  | 17 => needZero w 6 6 "prginspg" (.prginspg (fieldSrc1 w) (fieldIsrc2 w))
  | 18 => if bitsOf w 0 6 = 0#6 then needZero w 12 9 "pswset" (.pswset (fieldSrc2 w))
    else .error (.reservedField "pswset")
  | 19 => if bitsOf w 0 6 = 0#6 then needZero w 12 9 "pswclr" (.pswclr (fieldSrc2 w))
    else .error (.reservedField "pswclr")
  | _ => .error (.unallocated 2)

/-- Format 10: bits [22:21] are reserved in every row. -/
def decodeFormat10 (w : Word) : Except DecodeError Instr :=
  if bitsOf w 21 2 = 0#2 then decodeMemory w else .error (.reservedField "format 10")

/-- Format 11: bit 27 is 1 for `br` and `brf`, told apart by bit 26; else bits [26:23] choose. -/
def decodeFormat11 (w : Word) : Except DecodeError Instr :=
  match (bitsOf w 26 2).toNat with
  | 2 => .ok (.br (fieldBcond w) (fieldImm w))
  | 3 => .ok (.brf (fieldBcond w) (fieldImm w))
  | _ =>
    match (bitsOf w 23 4).toNat with
    | 0 => .ok (.callImm (fieldImm w))
    | 1 => needZero w 0 23 "call" .callLink
    | 2 => .ok (.gotoImm (fieldImm w))
    | 3 => needZero w 0 23 "goto" .gotoLink
    | 4 => needZero w 0 23 "rfi" .rfi
    | _ => .error (.unallocated 3)

/-- The operation of one syllable (30_encoding.md R306), or the name of what is wrong with it. -/
def decodeSyllable (w : Word) : Except DecodeError Instr :=
  if bitsOf w 30 1 = 1#1 then .error .bit30
  else
    match (bitsOf w 28 2).toNat with
    | 0 => decodeFormat00 w
    | 1 => decodeFormat01 w
    | 2 => decodeFormat10 w
    | _ => decodeFormat11 w

/-! ## Bytes and the opcode table's numbering -/

/-- The word of four bytes, the first of which is least significant (20_memory.md R141, little endian). -/
def wordOfBytes (b0 b1 b2 b3 : Byte) : Word := b3 ++ b2 ++ b1 ++ b0

/-- The instruction that a list of bytes, lowest address first, begins with, and the bytes after it. -/
def decodeBytes (bs : List Byte) : Option (Instr × List Byte) :=
  match bs with
  | b0 :: b1 :: b2 :: b3 :: rest =>
    match decodeSyllable (wordOfBytes b0 b1 b2 b3) with
    | .ok i => some (i, rest)
    | .error _ => none
  | _ => none

/-- The low `nbits` bits of `w` as a syllable; the bits above are 0. -/
def tableWord (nbits w : Nat) : Word := BitVec.ofNat 32 (w % 2 ^ nbits)

/-- The four bytes of a word as a little endian machine stores them, lowest address first (20_memory.md R141). -/
def bytesOfWord (w : Word) : List Byte := [bitsOf w 0 8, bitsOf w 8 8, bitsOf w 16 8, bitsOf w 24 8]

/-- The instruction the decoder reads from the bits of an opcode-table row. -/
def decodeTableWord (nbits w : Nat) : Option Instr := (decodeBytes (bytesOfWord (tableWord nbits w))).map Prod.fst

/-! ## The encoder (30_encoding.md R296), stop bit clear but for `sbrk` -/

/-- Int3R and the register multiplies. -/
def encInt3R (op : BitVec 5) (d s2 s1 : GReg) : Word := 0#6 ++ op ++ 0#3 ++ d ++ s2 ++ s1
/-- Int3I and the immediate multiplies. -/
def encInt3I (op : BitVec 5) (i : Imm9) (d s1 : GReg) : Word := 2#6 ++ op ++ i ++ d ++ s1
/-- Monadic: the sub-opcode stands in the ISRC2 position. -/
def encMonadic (sub : BitVec 9) (d s1 : GReg) : Word := 2#6 ++ 14#5 ++ sub ++ d ++ s1
/-- Cmp3R_Reg and Mul64R; the opcode holds bit 25. -/
def encCmpRR (op : BitVec 5) (d s2 s1 : GReg) : Word := 1#6 ++ op ++ 0#3 ++ d ++ s2 ++ s1
/-- Cmp3R_Br. -/
def encCmpBR (op : BitVec 5) (b : BReg) (s2 s1 : GReg) : Word := 1#6 ++ op ++ b ++ 0#6 ++ s2 ++ s1
/-- Cmp3I_Reg and Mul64I. -/
def encCmpRI (op : BitVec 5) (i : Imm9) (d s1 : GReg) : Word := 3#6 ++ op ++ i ++ d ++ s1
/-- Cmp3I_Br. -/
def encCmpBI (op : BitVec 5) (i : Imm9) (b : BReg) (s1 : GReg) : Word := 3#6 ++ op ++ i ++ 0#3 ++ b ++ s1
/-- SelectR; `op` is bits [27:24]. -/
def encSelR (op : BitVec 4) (c : BReg) (d s2 s1 : GReg) : Word := 1#4 ++ op ++ c ++ 0#3 ++ d ++ s2 ++ s1
/-- SelectI. -/
def encSelI (op : BitVec 4) (c : BReg) (i : Imm9) (d s1 : GReg) : Word := 1#4 ++ op ++ c ++ i ++ d ++ s1
/-- cgen. -/
def encCgen (op : BitVec 4) (c b : BReg) (d s2 s1 : GReg) : Word := 1#4 ++ op ++ c ++ b ++ d ++ s2 ++ s1
/-- Imm; `op` is bits [27:23]. -/
def encImm (op : BitVec 5) (x : Imm23) : Word := 1#4 ++ op ++ x
/-- SysOp and SBreak; `op` is bits [27:21], `stop` the stop bit. -/
def encSys (stop : BitVec 1) (op : BitVec 7) (n : Imm21) : Word := stop ++ 1#3 ++ op ++ n
/-- Load, Store and Psw: bits [22:21] are zero; the three fields below are ISRC2, [11:6] and [5:0]. -/
def encMem (op : BitVec 5) (i : Imm9) (m s1 : GReg) : Word := 2#4 ++ op ++ 0#2 ++ i ++ m ++ s1
/-- Call; `op` is bits [27:23]. -/
def encCall (op : BitVec 5) (t : Imm23) : Word := 3#4 ++ op ++ t
/-- Branch; `op` is bits [27:26]. -/
def encBranch (op : BitVec 2) (c : BReg) (t : Imm23) : Word := 3#4 ++ op ++ c ++ t

/-- The syllable of an instruction, with a clear stop bit (set for `sbrk`). -/
def encode (i : Instr) : Word :=
  match i with
  | .addR dest src1 src2 => encInt3R 0#5 dest src2 src1
  | .addI idest src1 isrc2 => encInt3I 0#5 isrc2 idest src1
  | .subR dest src1 src2 => encInt3R 1#5 dest src2 src1
  | .subI idest src1 isrc2 => encInt3I 1#5 isrc2 idest src1
  | .shlR dest src1 src2 => encInt3R 2#5 dest src2 src1
  | .shlI idest src1 isrc2 => encInt3I 2#5 isrc2 idest src1
  | .shrR dest src1 src2 => encInt3R 3#5 dest src2 src1
  | .shrI idest src1 isrc2 => encInt3I 3#5 isrc2 idest src1
  | .shruR dest src1 src2 => encInt3R 4#5 dest src2 src1
  | .shruI idest src1 isrc2 => encInt3I 4#5 isrc2 idest src1
  | .sh1addR dest src1 src2 => encInt3R 5#5 dest src2 src1
  | .sh1addI idest src1 isrc2 => encInt3I 5#5 isrc2 idest src1
  | .sh2addR dest src1 src2 => encInt3R 6#5 dest src2 src1
  | .sh2addI idest src1 isrc2 => encInt3I 6#5 isrc2 idest src1
  | .sh3addR dest src1 src2 => encInt3R 7#5 dest src2 src1
  | .sh3addI idest src1 isrc2 => encInt3I 7#5 isrc2 idest src1
  | .sh4addR dest src1 src2 => encInt3R 8#5 dest src2 src1
  | .sh4addI idest src1 isrc2 => encInt3I 8#5 isrc2 idest src1
  | .andR dest src1 src2 => encInt3R 9#5 dest src2 src1
  | .andI idest src1 isrc2 => encInt3I 9#5 isrc2 idest src1
  | .andcR dest src1 src2 => encInt3R 10#5 dest src2 src1
  | .andcI idest src1 isrc2 => encInt3I 10#5 isrc2 idest src1
  | .orR dest src1 src2 => encInt3R 11#5 dest src2 src1
  | .orI idest src1 isrc2 => encInt3I 11#5 isrc2 idest src1
  | .orcR dest src1 src2 => encInt3R 12#5 dest src2 src1
  | .orcI idest src1 isrc2 => encInt3I 12#5 isrc2 idest src1
  | .xorR dest src1 src2 => encInt3R 13#5 dest src2 src1
  | .xorI idest src1 isrc2 => encInt3I 13#5 isrc2 idest src1
  | .mullhusR nldest src1 src2 => encInt3R 15#5 nldest src2 src1
  | .mullhusI nlidest src1 isrc2 => encInt3I 15#5 isrc2 nlidest src1
  | .maxR dest src1 src2 => encInt3R 16#5 dest src2 src1
  | .maxI idest src1 isrc2 => encInt3I 16#5 isrc2 idest src1
  | .maxuR dest src1 src2 => encInt3R 17#5 dest src2 src1
  | .maxuI idest src1 isrc2 => encInt3I 17#5 isrc2 idest src1
  | .minR dest src1 src2 => encInt3R 18#5 dest src2 src1
  | .minI idest src1 isrc2 => encInt3I 18#5 isrc2 idest src1
  | .minuR dest src1 src2 => encInt3R 19#5 dest src2 src1
  | .minuI idest src1 isrc2 => encInt3I 19#5 isrc2 idest src1
  | .mulhhsR nldest src1 src2 => encInt3R 20#5 nldest src2 src1
  | .mulhhsI nlidest src1 isrc2 => encInt3I 20#5 isrc2 nlidest src1
  | .mullR nldest src1 src2 => encInt3R 21#5 nldest src2 src1
  | .mullI nlidest src1 isrc2 => encInt3I 21#5 isrc2 nlidest src1
  | .mulluR nldest src1 src2 => encInt3R 22#5 nldest src2 src1
  | .mulluI nlidest src1 isrc2 => encInt3I 22#5 isrc2 nlidest src1
  | .mulhR nldest src1 src2 => encInt3R 23#5 nldest src2 src1
  | .mulhI nlidest src1 isrc2 => encInt3I 23#5 isrc2 nlidest src1
  | .mulhuR nldest src1 src2 => encInt3R 24#5 nldest src2 src1
  | .mulhuI nlidest src1 isrc2 => encInt3I 24#5 isrc2 nlidest src1
  | .mulllR nldest src1 src2 => encInt3R 25#5 nldest src2 src1
  | .mulllI nlidest src1 isrc2 => encInt3I 25#5 isrc2 nlidest src1
  | .mullluR nldest src1 src2 => encInt3R 26#5 nldest src2 src1
  | .mullluI nlidest src1 isrc2 => encInt3I 26#5 isrc2 nlidest src1
  | .mullhR nldest src1 src2 => encInt3R 27#5 nldest src2 src1
  | .mullhI nlidest src1 isrc2 => encInt3I 27#5 isrc2 nlidest src1
  | .mullhuR nldest src1 src2 => encInt3R 28#5 nldest src2 src1
  | .mullhuI nlidest src1 isrc2 => encInt3I 28#5 isrc2 nlidest src1
  | .mulhhR nldest src1 src2 => encInt3R 29#5 nldest src2 src1
  | .mulhhI nlidest src1 isrc2 => encInt3I 29#5 isrc2 nlidest src1
  | .mulhhuR nldest src1 src2 => encInt3R 30#5 nldest src2 src1
  | .mulhhuI nlidest src1 isrc2 => encInt3I 30#5 isrc2 nlidest src1
  | .mulhsR nldest src1 src2 => encInt3R 31#5 nldest src2 src1
  | .mulhsI nlidest src1 isrc2 => encInt3I 31#5 isrc2 nlidest src1
  | .sxtb idest src1 => encMonadic 0#9 idest src1
  | .sxth idest src1 => encMonadic 1#9 idest src1
  | .bswap idest src1 => encMonadic 2#9 idest src1
  | .zxth idest src1 => encMonadic 3#9 idest src1
  | .clz idest src1 => encMonadic 4#9 idest src1
  | .cmpeqRR dest src1 src2 => encCmpRR 0#5 dest src2 src1
  | .cmpeqBR bdest src1 src2 => encCmpBR 16#5 bdest src2 src1
  | .cmpeqRI idest src1 isrc2 => encCmpRI 0#5 isrc2 idest src1
  | .cmpeqBI ibdest src1 isrc2 => encCmpBI 16#5 isrc2 ibdest src1
  | .cmpneRR dest src1 src2 => encCmpRR 1#5 dest src2 src1
  | .cmpneBR bdest src1 src2 => encCmpBR 17#5 bdest src2 src1
  | .cmpneRI idest src1 isrc2 => encCmpRI 1#5 isrc2 idest src1
  | .cmpneBI ibdest src1 isrc2 => encCmpBI 17#5 isrc2 ibdest src1
  | .cmpgeRR dest src1 src2 => encCmpRR 2#5 dest src2 src1
  | .cmpgeBR bdest src1 src2 => encCmpBR 18#5 bdest src2 src1
  | .cmpgeRI idest src1 isrc2 => encCmpRI 2#5 isrc2 idest src1
  | .cmpgeBI ibdest src1 isrc2 => encCmpBI 18#5 isrc2 ibdest src1
  | .cmpgeuRR dest src1 src2 => encCmpRR 3#5 dest src2 src1
  | .cmpgeuBR bdest src1 src2 => encCmpBR 19#5 bdest src2 src1
  | .cmpgeuRI idest src1 isrc2 => encCmpRI 3#5 isrc2 idest src1
  | .cmpgeuBI ibdest src1 isrc2 => encCmpBI 19#5 isrc2 ibdest src1
  | .cmpgtRR dest src1 src2 => encCmpRR 4#5 dest src2 src1
  | .cmpgtBR bdest src1 src2 => encCmpBR 20#5 bdest src2 src1
  | .cmpgtRI idest src1 isrc2 => encCmpRI 4#5 isrc2 idest src1
  | .cmpgtBI ibdest src1 isrc2 => encCmpBI 20#5 isrc2 ibdest src1
  | .cmpgtuRR dest src1 src2 => encCmpRR 5#5 dest src2 src1
  | .cmpgtuBR bdest src1 src2 => encCmpBR 21#5 bdest src2 src1
  | .cmpgtuRI idest src1 isrc2 => encCmpRI 5#5 isrc2 idest src1
  | .cmpgtuBI ibdest src1 isrc2 => encCmpBI 21#5 isrc2 ibdest src1
  | .cmpleRR dest src1 src2 => encCmpRR 6#5 dest src2 src1
  | .cmpleBR bdest src1 src2 => encCmpBR 22#5 bdest src2 src1
  | .cmpleRI idest src1 isrc2 => encCmpRI 6#5 isrc2 idest src1
  | .cmpleBI ibdest src1 isrc2 => encCmpBI 22#5 isrc2 ibdest src1
  | .cmpleuRR dest src1 src2 => encCmpRR 7#5 dest src2 src1
  | .cmpleuBR bdest src1 src2 => encCmpBR 23#5 bdest src2 src1
  | .cmpleuRI idest src1 isrc2 => encCmpRI 7#5 isrc2 idest src1
  | .cmpleuBI ibdest src1 isrc2 => encCmpBI 23#5 isrc2 ibdest src1
  | .cmpltRR dest src1 src2 => encCmpRR 8#5 dest src2 src1
  | .cmpltBR bdest src1 src2 => encCmpBR 24#5 bdest src2 src1
  | .cmpltRI idest src1 isrc2 => encCmpRI 8#5 isrc2 idest src1
  | .cmpltBI ibdest src1 isrc2 => encCmpBI 24#5 isrc2 ibdest src1
  | .cmpltuRR dest src1 src2 => encCmpRR 9#5 dest src2 src1
  | .cmpltuBR bdest src1 src2 => encCmpBR 25#5 bdest src2 src1
  | .cmpltuRI idest src1 isrc2 => encCmpRI 9#5 isrc2 idest src1
  | .cmpltuBI ibdest src1 isrc2 => encCmpBI 25#5 isrc2 ibdest src1
  | .andlRR dest src1 src2 => encCmpRR 10#5 dest src2 src1
  | .andlBR bdest src1 src2 => encCmpBR 26#5 bdest src2 src1
  | .andlRI idest src1 isrc2 => encCmpRI 10#5 isrc2 idest src1
  | .andlBI ibdest src1 isrc2 => encCmpBI 26#5 isrc2 ibdest src1
  | .nandlRR dest src1 src2 => encCmpRR 11#5 dest src2 src1
  | .nandlBR bdest src1 src2 => encCmpBR 27#5 bdest src2 src1
  | .nandlRI idest src1 isrc2 => encCmpRI 11#5 isrc2 idest src1
  | .nandlBI ibdest src1 isrc2 => encCmpBI 27#5 isrc2 ibdest src1
  | .orlRR dest src1 src2 => encCmpRR 12#5 dest src2 src1
  | .orlBR bdest src1 src2 => encCmpBR 28#5 bdest src2 src1
  | .orlRI idest src1 isrc2 => encCmpRI 12#5 isrc2 idest src1
  | .orlBI ibdest src1 isrc2 => encCmpBI 28#5 isrc2 ibdest src1
  | .norlRR dest src1 src2 => encCmpRR 13#5 dest src2 src1
  | .norlBR bdest src1 src2 => encCmpBR 29#5 bdest src2 src1
  | .norlRI idest src1 isrc2 => encCmpRI 13#5 isrc2 idest src1
  | .norlBI ibdest src1 isrc2 => encCmpBI 29#5 isrc2 ibdest src1
  | .mul32R nldest src1 src2 => encCmpRR 14#5 nldest src2 src1
  | .mul32I nlidest src1 isrc2 => encCmpRI 14#5 isrc2 nlidest src1
  | .mul64hR nldest src1 src2 => encCmpRR 15#5 nldest src2 src1
  | .mul64hI nlidest src1 isrc2 => encCmpRI 15#5 isrc2 nlidest src1
  | .mul64huR nldest src1 src2 => encCmpRR 30#5 nldest src2 src1
  | .mul64huI nlidest src1 isrc2 => encCmpRI 30#5 isrc2 nlidest src1
  | .mulfracR nldest src1 src2 => encCmpRR 31#5 nldest src2 src1
  | .mulfracI nlidest src1 isrc2 => encCmpRI 31#5 isrc2 nlidest src1
  | .slctR dest scond src1 src2 => encSelR 0#4 scond dest src2 src1
  | .slctI idest scond src1 isrc2 => encSelI 8#4 scond isrc2 idest src1
  | .slctfR dest scond src1 src2 => encSelR 1#4 scond dest src2 src1
  | .slctfI idest scond src1 isrc2 => encSelI 9#4 scond isrc2 idest src1
  | .addcg dest bdest scond src1 src2 => encCgen 2#4 scond bdest dest src2 src1
  | .divs dest bdest scond src1 src2 => encCgen 4#4 scond bdest dest src2 src1
  | .imml imm => encImm 10#5 imm
  | .immr imm => encImm 11#5 imm
  | .prgins => encSys 0#1 124#7 0#21
  | .sbrk sbrknum => encSys 1#1 125#7 sbrknum
  | .syscall sbrknum => encSys 0#1 126#7 sbrknum
  | .breakOp => encSys 0#1 127#7 0#21
  | .ldw idest src1 isrc2 => encMem 0#5 isrc2 idest src1
  | .ldwD idest src1 isrc2 => encMem 1#5 isrc2 idest src1
  | .ldh nlidest src1 isrc2 => encMem 2#5 isrc2 nlidest src1
  | .ldhD nlidest src1 isrc2 => encMem 3#5 isrc2 nlidest src1
  | .ldhu nlidest src1 isrc2 => encMem 4#5 isrc2 nlidest src1
  | .ldhuD nlidest src1 isrc2 => encMem 5#5 isrc2 nlidest src1
  | .ldb nlidest src1 isrc2 => encMem 6#5 isrc2 nlidest src1
  | .ldbD nlidest src1 isrc2 => encMem 7#5 isrc2 nlidest src1
  | .ldbu nlidest src1 isrc2 => encMem 8#5 isrc2 nlidest src1
  | .ldbuD nlidest src1 isrc2 => encMem 9#5 isrc2 nlidest src1
  | .stw src2 src1 isrc2 => encMem 10#5 isrc2 src2 src1
  | .sth src2 src1 isrc2 => encMem 11#5 isrc2 src2 src1
  | .stb src2 src1 isrc2 => encMem 12#5 isrc2 src2 src1
  | .pft src1 isrc2 => encMem 13#5 isrc2 0#6 src1
  | .prgadd src1 isrc2 => encMem 14#5 isrc2 0#6 src1
  | .prgset src1 isrc2 => encMem 15#5 isrc2 0#6 src1
  | .sync => encMem 16#5 0#9 0#6 0#6
  | .prginspg src1 isrc2 => encMem 17#5 isrc2 0#6 src1
  | .pswset src2 => encMem 18#5 0#9 src2 0#6
  | .pswclr src2 => encMem 19#5 0#9 src2 0#6
  | .callImm btarg => encCall 0#5 btarg
  | .callLink => encCall 1#5 0#23
  | .gotoImm btarg => encCall 2#5 btarg
  | .gotoLink => encCall 3#5 0#23
  | .rfi => encCall 4#5 0#23
  | .br bcond btarg => encBranch 2#2 bcond btarg
  | .brf bcond btarg => encBranch 3#2 bcond btarg

end Sys2Proof
end

