-- ==== Sys2Proof/Machine/Bundle.lean ====
section
/-! DEFINITION. Bundles: what each operation takes part in, the association of extensions (30_encoding.md R300 to R302)
and the rules that make a bundle legal (R311 to R321). -/

namespace Sys2Proof.Machine

/-! ## What an operation is -/

/-- The general register an operation writes, as 30_encoding.md R318 counts it: its destination field, or R63 for a
call; none for the rest. -/
def destG (i : Instr) : Option GReg :=
  match i with
  | .addR dest _ _ => some dest
  | .addI idest _ _ => some idest
  | .subR dest _ _ => some dest
  | .subI idest _ _ => some idest
  | .shlR dest _ _ => some dest
  | .shlI idest _ _ => some idest
  | .shrR dest _ _ => some dest
  | .shrI idest _ _ => some idest
  | .shruR dest _ _ => some dest
  | .shruI idest _ _ => some idest
  | .sh1addR dest _ _ => some dest
  | .sh1addI idest _ _ => some idest
  | .sh2addR dest _ _ => some dest
  | .sh2addI idest _ _ => some idest
  | .sh3addR dest _ _ => some dest
  | .sh3addI idest _ _ => some idest
  | .sh4addR dest _ _ => some dest
  | .sh4addI idest _ _ => some idest
  | .andR dest _ _ => some dest
  | .andI idest _ _ => some idest
  | .andcR dest _ _ => some dest
  | .andcI idest _ _ => some idest
  | .orR dest _ _ => some dest
  | .orI idest _ _ => some idest
  | .orcR dest _ _ => some dest
  | .orcI idest _ _ => some idest
  | .xorR dest _ _ => some dest
  | .xorI idest _ _ => some idest
  | .mullhusR nldest _ _ => some nldest
  | .mullhusI nlidest _ _ => some nlidest
  | .maxR dest _ _ => some dest
  | .maxI idest _ _ => some idest
  | .maxuR dest _ _ => some dest
  | .maxuI idest _ _ => some idest
  | .minR dest _ _ => some dest
  | .minI idest _ _ => some idest
  | .minuR dest _ _ => some dest
  | .minuI idest _ _ => some idest
  | .mulhhsR nldest _ _ => some nldest
  | .mulhhsI nlidest _ _ => some nlidest
  | .mullR nldest _ _ => some nldest
  | .mullI nlidest _ _ => some nlidest
  | .mulluR nldest _ _ => some nldest
  | .mulluI nlidest _ _ => some nlidest
  | .mulhR nldest _ _ => some nldest
  | .mulhI nlidest _ _ => some nlidest
  | .mulhuR nldest _ _ => some nldest
  | .mulhuI nlidest _ _ => some nlidest
  | .mulllR nldest _ _ => some nldest
  | .mulllI nlidest _ _ => some nlidest
  | .mullluR nldest _ _ => some nldest
  | .mullluI nlidest _ _ => some nlidest
  | .mullhR nldest _ _ => some nldest
  | .mullhI nlidest _ _ => some nlidest
  | .mullhuR nldest _ _ => some nldest
  | .mullhuI nlidest _ _ => some nlidest
  | .mulhhR nldest _ _ => some nldest
  | .mulhhI nlidest _ _ => some nlidest
  | .mulhhuR nldest _ _ => some nldest
  | .mulhhuI nlidest _ _ => some nlidest
  | .mulhsR nldest _ _ => some nldest
  | .mulhsI nlidest _ _ => some nlidest
  | .sxtb idest _ => some idest
  | .sxth idest _ => some idest
  | .bswap idest _ => some idest
  | .zxth idest _ => some idest
  | .clz idest _ => some idest
  | .cmpeqRR dest _ _ => some dest
  | .cmpeqBR _ _ _ => none
  | .cmpeqRI idest _ _ => some idest
  | .cmpeqBI _ _ _ => none
  | .cmpneRR dest _ _ => some dest
  | .cmpneBR _ _ _ => none
  | .cmpneRI idest _ _ => some idest
  | .cmpneBI _ _ _ => none
  | .cmpgeRR dest _ _ => some dest
  | .cmpgeBR _ _ _ => none
  | .cmpgeRI idest _ _ => some idest
  | .cmpgeBI _ _ _ => none
  | .cmpgeuRR dest _ _ => some dest
  | .cmpgeuBR _ _ _ => none
  | .cmpgeuRI idest _ _ => some idest
  | .cmpgeuBI _ _ _ => none
  | .cmpgtRR dest _ _ => some dest
  | .cmpgtBR _ _ _ => none
  | .cmpgtRI idest _ _ => some idest
  | .cmpgtBI _ _ _ => none
  | .cmpgtuRR dest _ _ => some dest
  | .cmpgtuBR _ _ _ => none
  | .cmpgtuRI idest _ _ => some idest
  | .cmpgtuBI _ _ _ => none
  | .cmpleRR dest _ _ => some dest
  | .cmpleBR _ _ _ => none
  | .cmpleRI idest _ _ => some idest
  | .cmpleBI _ _ _ => none
  | .cmpleuRR dest _ _ => some dest
  | .cmpleuBR _ _ _ => none
  | .cmpleuRI idest _ _ => some idest
  | .cmpleuBI _ _ _ => none
  | .cmpltRR dest _ _ => some dest
  | .cmpltBR _ _ _ => none
  | .cmpltRI idest _ _ => some idest
  | .cmpltBI _ _ _ => none
  | .cmpltuRR dest _ _ => some dest
  | .cmpltuBR _ _ _ => none
  | .cmpltuRI idest _ _ => some idest
  | .cmpltuBI _ _ _ => none
  | .andlRR dest _ _ => some dest
  | .andlBR _ _ _ => none
  | .andlRI idest _ _ => some idest
  | .andlBI _ _ _ => none
  | .nandlRR dest _ _ => some dest
  | .nandlBR _ _ _ => none
  | .nandlRI idest _ _ => some idest
  | .nandlBI _ _ _ => none
  | .orlRR dest _ _ => some dest
  | .orlBR _ _ _ => none
  | .orlRI idest _ _ => some idest
  | .orlBI _ _ _ => none
  | .norlRR dest _ _ => some dest
  | .norlBR _ _ _ => none
  | .norlRI idest _ _ => some idest
  | .norlBI _ _ _ => none
  | .mul32R nldest _ _ => some nldest
  | .mul32I nlidest _ _ => some nlidest
  | .mul64hR nldest _ _ => some nldest
  | .mul64hI nlidest _ _ => some nlidest
  | .mul64huR nldest _ _ => some nldest
  | .mul64huI nlidest _ _ => some nlidest
  | .mulfracR nldest _ _ => some nldest
  | .mulfracI nlidest _ _ => some nlidest
  | .slctR dest _ _ _ => some dest
  | .slctI idest _ _ _ => some idest
  | .slctfR dest _ _ _ => some dest
  | .slctfI idest _ _ _ => some idest
  | .addcg dest _ _ _ _ => some dest
  | .divs dest _ _ _ _ => some dest
  | .imml _ => none
  | .immr _ => none
  | .prgins => none
  | .sbrk _ => none
  | .syscall _ => none
  | .breakOp => none
  | .ldw idest _ _ => some idest
  | .ldwD idest _ _ => some idest
  | .ldh nlidest _ _ => some nlidest
  | .ldhD nlidest _ _ => some nlidest
  | .ldhu nlidest _ _ => some nlidest
  | .ldhuD nlidest _ _ => some nlidest
  | .ldb nlidest _ _ => some nlidest
  | .ldbD nlidest _ _ => some nlidest
  | .ldbu nlidest _ _ => some nlidest
  | .ldbuD nlidest _ _ => some nlidest
  | .stw _ _ _ => none
  | .sth _ _ _ => none
  | .stb _ _ _ => none
  | .pft _ _ => none
  | .prgadd _ _ => none
  | .prgset _ _ => none
  | .sync => none
  | .prginspg _ _ => none
  | .pswset _ => none
  | .pswclr _ => none
  | .callImm _ => some 63#6
  | .callLink => some 63#6
  | .gotoImm _ => none
  | .gotoLink => none
  | .rfi => none
  | .br _ _ => none
  | .brf _ _ => none

/-- The branch register an operation writes (30_encoding.md R318). -/
def destB (i : Instr) : Option BReg :=
  match i with
  | .addR _ _ _ => none
  | .addI _ _ _ => none
  | .subR _ _ _ => none
  | .subI _ _ _ => none
  | .shlR _ _ _ => none
  | .shlI _ _ _ => none
  | .shrR _ _ _ => none
  | .shrI _ _ _ => none
  | .shruR _ _ _ => none
  | .shruI _ _ _ => none
  | .sh1addR _ _ _ => none
  | .sh1addI _ _ _ => none
  | .sh2addR _ _ _ => none
  | .sh2addI _ _ _ => none
  | .sh3addR _ _ _ => none
  | .sh3addI _ _ _ => none
  | .sh4addR _ _ _ => none
  | .sh4addI _ _ _ => none
  | .andR _ _ _ => none
  | .andI _ _ _ => none
  | .andcR _ _ _ => none
  | .andcI _ _ _ => none
  | .orR _ _ _ => none
  | .orI _ _ _ => none
  | .orcR _ _ _ => none
  | .orcI _ _ _ => none
  | .xorR _ _ _ => none
  | .xorI _ _ _ => none
  | .mullhusR _ _ _ => none
  | .mullhusI _ _ _ => none
  | .maxR _ _ _ => none
  | .maxI _ _ _ => none
  | .maxuR _ _ _ => none
  | .maxuI _ _ _ => none
  | .minR _ _ _ => none
  | .minI _ _ _ => none
  | .minuR _ _ _ => none
  | .minuI _ _ _ => none
  | .mulhhsR _ _ _ => none
  | .mulhhsI _ _ _ => none
  | .mullR _ _ _ => none
  | .mullI _ _ _ => none
  | .mulluR _ _ _ => none
  | .mulluI _ _ _ => none
  | .mulhR _ _ _ => none
  | .mulhI _ _ _ => none
  | .mulhuR _ _ _ => none
  | .mulhuI _ _ _ => none
  | .mulllR _ _ _ => none
  | .mulllI _ _ _ => none
  | .mullluR _ _ _ => none
  | .mullluI _ _ _ => none
  | .mullhR _ _ _ => none
  | .mullhI _ _ _ => none
  | .mullhuR _ _ _ => none
  | .mullhuI _ _ _ => none
  | .mulhhR _ _ _ => none
  | .mulhhI _ _ _ => none
  | .mulhhuR _ _ _ => none
  | .mulhhuI _ _ _ => none
  | .mulhsR _ _ _ => none
  | .mulhsI _ _ _ => none
  | .sxtb _ _ => none
  | .sxth _ _ => none
  | .bswap _ _ => none
  | .zxth _ _ => none
  | .clz _ _ => none
  | .cmpeqRR _ _ _ => none
  | .cmpeqBR bdest _ _ => some bdest
  | .cmpeqRI _ _ _ => none
  | .cmpeqBI ibdest _ _ => some ibdest
  | .cmpneRR _ _ _ => none
  | .cmpneBR bdest _ _ => some bdest
  | .cmpneRI _ _ _ => none
  | .cmpneBI ibdest _ _ => some ibdest
  | .cmpgeRR _ _ _ => none
  | .cmpgeBR bdest _ _ => some bdest
  | .cmpgeRI _ _ _ => none
  | .cmpgeBI ibdest _ _ => some ibdest
  | .cmpgeuRR _ _ _ => none
  | .cmpgeuBR bdest _ _ => some bdest
  | .cmpgeuRI _ _ _ => none
  | .cmpgeuBI ibdest _ _ => some ibdest
  | .cmpgtRR _ _ _ => none
  | .cmpgtBR bdest _ _ => some bdest
  | .cmpgtRI _ _ _ => none
  | .cmpgtBI ibdest _ _ => some ibdest
  | .cmpgtuRR _ _ _ => none
  | .cmpgtuBR bdest _ _ => some bdest
  | .cmpgtuRI _ _ _ => none
  | .cmpgtuBI ibdest _ _ => some ibdest
  | .cmpleRR _ _ _ => none
  | .cmpleBR bdest _ _ => some bdest
  | .cmpleRI _ _ _ => none
  | .cmpleBI ibdest _ _ => some ibdest
  | .cmpleuRR _ _ _ => none
  | .cmpleuBR bdest _ _ => some bdest
  | .cmpleuRI _ _ _ => none
  | .cmpleuBI ibdest _ _ => some ibdest
  | .cmpltRR _ _ _ => none
  | .cmpltBR bdest _ _ => some bdest
  | .cmpltRI _ _ _ => none
  | .cmpltBI ibdest _ _ => some ibdest
  | .cmpltuRR _ _ _ => none
  | .cmpltuBR bdest _ _ => some bdest
  | .cmpltuRI _ _ _ => none
  | .cmpltuBI ibdest _ _ => some ibdest
  | .andlRR _ _ _ => none
  | .andlBR bdest _ _ => some bdest
  | .andlRI _ _ _ => none
  | .andlBI ibdest _ _ => some ibdest
  | .nandlRR _ _ _ => none
  | .nandlBR bdest _ _ => some bdest
  | .nandlRI _ _ _ => none
  | .nandlBI ibdest _ _ => some ibdest
  | .orlRR _ _ _ => none
  | .orlBR bdest _ _ => some bdest
  | .orlRI _ _ _ => none
  | .orlBI ibdest _ _ => some ibdest
  | .norlRR _ _ _ => none
  | .norlBR bdest _ _ => some bdest
  | .norlRI _ _ _ => none
  | .norlBI ibdest _ _ => some ibdest
  | .mul32R _ _ _ => none
  | .mul32I _ _ _ => none
  | .mul64hR _ _ _ => none
  | .mul64hI _ _ _ => none
  | .mul64huR _ _ _ => none
  | .mul64huI _ _ _ => none
  | .mulfracR _ _ _ => none
  | .mulfracI _ _ _ => none
  | .slctR _ _ _ _ => none
  | .slctI _ _ _ _ => none
  | .slctfR _ _ _ _ => none
  | .slctfI _ _ _ _ => none
  | .addcg _ bdest _ _ _ => some bdest
  | .divs _ bdest _ _ _ => some bdest
  | .imml _ => none
  | .immr _ => none
  | .prgins => none
  | .sbrk _ => none
  | .syscall _ => none
  | .breakOp => none
  | .ldw _ _ _ => none
  | .ldwD _ _ _ => none
  | .ldh _ _ _ => none
  | .ldhD _ _ _ => none
  | .ldhu _ _ _ => none
  | .ldhuD _ _ _ => none
  | .ldb _ _ _ => none
  | .ldbD _ _ _ => none
  | .ldbu _ _ _ => none
  | .ldbuD _ _ _ => none
  | .stw _ _ _ => none
  | .sth _ _ _ => none
  | .stb _ _ _ => none
  | .pft _ _ => none
  | .prgadd _ _ => none
  | .prgset _ _ => none
  | .sync => none
  | .prginspg _ _ => none
  | .pswset _ => none
  | .pswclr _ => none
  | .callImm _ => none
  | .callLink => none
  | .gotoImm _ => none
  | .gotoLink => none
  | .rfi => none
  | .br _ _ => none
  | .brf _ _ => none

/-- The part an operation plays in a bundle. -/
inductive Kind where
  /-- Integer, compare, select and `break`: no restriction. -/
  | plain
  /-- A multiply: odd word address (30_encoding.md R315). -/
  | multiply
  /-- A load, store, `pft`, purge or `sync` of format 10 (R316). -/
  | memory
  /-- `pswset` and `pswclr` (R314, R316). -/
  | psw
  /-- `rfi` (R314, R316). -/
  | rfi
  /-- `br`, `brf`, `call`, `goto` (R314). -/
  | transfer
  /-- `prgins` and `syscall` (R321). -/
  | alone
  /-- `sbrk` (R321). -/
  | sbrk
  /-- `imml` (R301). -/
  | extLeft
  /-- `immr` (R301). -/
  | extRight
deriving DecidableEq, Repr

/-- The kind of each operation. -/
def kindOf (i : Instr) : Kind :=
  match i with
  | .addR _ _ _ => .plain
  | .addI _ _ _ => .plain
  | .subR _ _ _ => .plain
  | .subI _ _ _ => .plain
  | .shlR _ _ _ => .plain
  | .shlI _ _ _ => .plain
  | .shrR _ _ _ => .plain
  | .shrI _ _ _ => .plain
  | .shruR _ _ _ => .plain
  | .shruI _ _ _ => .plain
  | .sh1addR _ _ _ => .plain
  | .sh1addI _ _ _ => .plain
  | .sh2addR _ _ _ => .plain
  | .sh2addI _ _ _ => .plain
  | .sh3addR _ _ _ => .plain
  | .sh3addI _ _ _ => .plain
  | .sh4addR _ _ _ => .plain
  | .sh4addI _ _ _ => .plain
  | .andR _ _ _ => .plain
  | .andI _ _ _ => .plain
  | .andcR _ _ _ => .plain
  | .andcI _ _ _ => .plain
  | .orR _ _ _ => .plain
  | .orI _ _ _ => .plain
  | .orcR _ _ _ => .plain
  | .orcI _ _ _ => .plain
  | .xorR _ _ _ => .plain
  | .xorI _ _ _ => .plain
  | .mullhusR _ _ _ => .multiply
  | .mullhusI _ _ _ => .multiply
  | .maxR _ _ _ => .plain
  | .maxI _ _ _ => .plain
  | .maxuR _ _ _ => .plain
  | .maxuI _ _ _ => .plain
  | .minR _ _ _ => .plain
  | .minI _ _ _ => .plain
  | .minuR _ _ _ => .plain
  | .minuI _ _ _ => .plain
  | .mulhhsR _ _ _ => .multiply
  | .mulhhsI _ _ _ => .multiply
  | .mullR _ _ _ => .multiply
  | .mullI _ _ _ => .multiply
  | .mulluR _ _ _ => .multiply
  | .mulluI _ _ _ => .multiply
  | .mulhR _ _ _ => .multiply
  | .mulhI _ _ _ => .multiply
  | .mulhuR _ _ _ => .multiply
  | .mulhuI _ _ _ => .multiply
  | .mulllR _ _ _ => .multiply
  | .mulllI _ _ _ => .multiply
  | .mullluR _ _ _ => .multiply
  | .mullluI _ _ _ => .multiply
  | .mullhR _ _ _ => .multiply
  | .mullhI _ _ _ => .multiply
  | .mullhuR _ _ _ => .multiply
  | .mullhuI _ _ _ => .multiply
  | .mulhhR _ _ _ => .multiply
  | .mulhhI _ _ _ => .multiply
  | .mulhhuR _ _ _ => .multiply
  | .mulhhuI _ _ _ => .multiply
  | .mulhsR _ _ _ => .multiply
  | .mulhsI _ _ _ => .multiply
  | .sxtb _ _ => .plain
  | .sxth _ _ => .plain
  | .bswap _ _ => .plain
  | .zxth _ _ => .plain
  | .clz _ _ => .plain
  | .cmpeqRR _ _ _ => .plain
  | .cmpeqBR _ _ _ => .plain
  | .cmpeqRI _ _ _ => .plain
  | .cmpeqBI _ _ _ => .plain
  | .cmpneRR _ _ _ => .plain
  | .cmpneBR _ _ _ => .plain
  | .cmpneRI _ _ _ => .plain
  | .cmpneBI _ _ _ => .plain
  | .cmpgeRR _ _ _ => .plain
  | .cmpgeBR _ _ _ => .plain
  | .cmpgeRI _ _ _ => .plain
  | .cmpgeBI _ _ _ => .plain
  | .cmpgeuRR _ _ _ => .plain
  | .cmpgeuBR _ _ _ => .plain
  | .cmpgeuRI _ _ _ => .plain
  | .cmpgeuBI _ _ _ => .plain
  | .cmpgtRR _ _ _ => .plain
  | .cmpgtBR _ _ _ => .plain
  | .cmpgtRI _ _ _ => .plain
  | .cmpgtBI _ _ _ => .plain
  | .cmpgtuRR _ _ _ => .plain
  | .cmpgtuBR _ _ _ => .plain
  | .cmpgtuRI _ _ _ => .plain
  | .cmpgtuBI _ _ _ => .plain
  | .cmpleRR _ _ _ => .plain
  | .cmpleBR _ _ _ => .plain
  | .cmpleRI _ _ _ => .plain
  | .cmpleBI _ _ _ => .plain
  | .cmpleuRR _ _ _ => .plain
  | .cmpleuBR _ _ _ => .plain
  | .cmpleuRI _ _ _ => .plain
  | .cmpleuBI _ _ _ => .plain
  | .cmpltRR _ _ _ => .plain
  | .cmpltBR _ _ _ => .plain
  | .cmpltRI _ _ _ => .plain
  | .cmpltBI _ _ _ => .plain
  | .cmpltuRR _ _ _ => .plain
  | .cmpltuBR _ _ _ => .plain
  | .cmpltuRI _ _ _ => .plain
  | .cmpltuBI _ _ _ => .plain
  | .andlRR _ _ _ => .plain
  | .andlBR _ _ _ => .plain
  | .andlRI _ _ _ => .plain
  | .andlBI _ _ _ => .plain
  | .nandlRR _ _ _ => .plain
  | .nandlBR _ _ _ => .plain
  | .nandlRI _ _ _ => .plain
  | .nandlBI _ _ _ => .plain
  | .orlRR _ _ _ => .plain
  | .orlBR _ _ _ => .plain
  | .orlRI _ _ _ => .plain
  | .orlBI _ _ _ => .plain
  | .norlRR _ _ _ => .plain
  | .norlBR _ _ _ => .plain
  | .norlRI _ _ _ => .plain
  | .norlBI _ _ _ => .plain
  | .mul32R _ _ _ => .multiply
  | .mul32I _ _ _ => .multiply
  | .mul64hR _ _ _ => .multiply
  | .mul64hI _ _ _ => .multiply
  | .mul64huR _ _ _ => .multiply
  | .mul64huI _ _ _ => .multiply
  | .mulfracR _ _ _ => .multiply
  | .mulfracI _ _ _ => .multiply
  | .slctR _ _ _ _ => .plain
  | .slctI _ _ _ _ => .plain
  | .slctfR _ _ _ _ => .plain
  | .slctfI _ _ _ _ => .plain
  | .addcg _ _ _ _ _ => .plain
  | .divs _ _ _ _ _ => .plain
  | .imml _ => .extLeft
  | .immr _ => .extRight
  | .prgins => .alone
  | .sbrk _ => .sbrk
  | .syscall _ => .alone
  | .breakOp => .plain
  | .ldw _ _ _ => .memory
  | .ldwD _ _ _ => .memory
  | .ldh _ _ _ => .memory
  | .ldhD _ _ _ => .memory
  | .ldhu _ _ _ => .memory
  | .ldhuD _ _ _ => .memory
  | .ldb _ _ _ => .memory
  | .ldbD _ _ _ => .memory
  | .ldbu _ _ _ => .memory
  | .ldbuD _ _ _ => .memory
  | .stw _ _ _ => .memory
  | .sth _ _ _ => .memory
  | .stb _ _ _ => .memory
  | .pft _ _ => .memory
  | .prgadd _ _ => .memory
  | .prgset _ _ => .memory
  | .sync => .memory
  | .prginspg _ _ => .memory
  | .pswset _ => .psw
  | .pswclr _ => .psw
  | .callImm _ => .transfer
  | .callLink => .transfer
  | .gotoImm _ => .transfer
  | .gotoLink => .transfer
  | .rfi => .rfi
  | .br _ _ => .transfer
  | .brf _ _ => .transfer

/-- The operation has an immediate format that can be extended (30_encoding.md R302). -/
def extendable (i : Instr) : Bool :=
  match i with
  | .addR _ _ _ => false
  | .addI _ _ _ => true
  | .subR _ _ _ => false
  | .subI _ _ _ => true
  | .shlR _ _ _ => false
  | .shlI _ _ _ => true
  | .shrR _ _ _ => false
  | .shrI _ _ _ => true
  | .shruR _ _ _ => false
  | .shruI _ _ _ => true
  | .sh1addR _ _ _ => false
  | .sh1addI _ _ _ => true
  | .sh2addR _ _ _ => false
  | .sh2addI _ _ _ => true
  | .sh3addR _ _ _ => false
  | .sh3addI _ _ _ => true
  | .sh4addR _ _ _ => false
  | .sh4addI _ _ _ => true
  | .andR _ _ _ => false
  | .andI _ _ _ => true
  | .andcR _ _ _ => false
  | .andcI _ _ _ => true
  | .orR _ _ _ => false
  | .orI _ _ _ => true
  | .orcR _ _ _ => false
  | .orcI _ _ _ => true
  | .xorR _ _ _ => false
  | .xorI _ _ _ => true
  | .mullhusR _ _ _ => false
  | .mullhusI _ _ _ => true
  | .maxR _ _ _ => false
  | .maxI _ _ _ => true
  | .maxuR _ _ _ => false
  | .maxuI _ _ _ => true
  | .minR _ _ _ => false
  | .minI _ _ _ => true
  | .minuR _ _ _ => false
  | .minuI _ _ _ => true
  | .mulhhsR _ _ _ => false
  | .mulhhsI _ _ _ => true
  | .mullR _ _ _ => false
  | .mullI _ _ _ => true
  | .mulluR _ _ _ => false
  | .mulluI _ _ _ => true
  | .mulhR _ _ _ => false
  | .mulhI _ _ _ => true
  | .mulhuR _ _ _ => false
  | .mulhuI _ _ _ => true
  | .mulllR _ _ _ => false
  | .mulllI _ _ _ => true
  | .mullluR _ _ _ => false
  | .mullluI _ _ _ => true
  | .mullhR _ _ _ => false
  | .mullhI _ _ _ => true
  | .mullhuR _ _ _ => false
  | .mullhuI _ _ _ => true
  | .mulhhR _ _ _ => false
  | .mulhhI _ _ _ => true
  | .mulhhuR _ _ _ => false
  | .mulhhuI _ _ _ => true
  | .mulhsR _ _ _ => false
  | .mulhsI _ _ _ => true
  | .sxtb _ _ => false
  | .sxth _ _ => false
  | .bswap _ _ => false
  | .zxth _ _ => false
  | .clz _ _ => false
  | .cmpeqRR _ _ _ => false
  | .cmpeqBR _ _ _ => false
  | .cmpeqRI _ _ _ => true
  | .cmpeqBI _ _ _ => true
  | .cmpneRR _ _ _ => false
  | .cmpneBR _ _ _ => false
  | .cmpneRI _ _ _ => true
  | .cmpneBI _ _ _ => true
  | .cmpgeRR _ _ _ => false
  | .cmpgeBR _ _ _ => false
  | .cmpgeRI _ _ _ => true
  | .cmpgeBI _ _ _ => true
  | .cmpgeuRR _ _ _ => false
  | .cmpgeuBR _ _ _ => false
  | .cmpgeuRI _ _ _ => true
  | .cmpgeuBI _ _ _ => true
  | .cmpgtRR _ _ _ => false
  | .cmpgtBR _ _ _ => false
  | .cmpgtRI _ _ _ => true
  | .cmpgtBI _ _ _ => true
  | .cmpgtuRR _ _ _ => false
  | .cmpgtuBR _ _ _ => false
  | .cmpgtuRI _ _ _ => true
  | .cmpgtuBI _ _ _ => true
  | .cmpleRR _ _ _ => false
  | .cmpleBR _ _ _ => false
  | .cmpleRI _ _ _ => true
  | .cmpleBI _ _ _ => true
  | .cmpleuRR _ _ _ => false
  | .cmpleuBR _ _ _ => false
  | .cmpleuRI _ _ _ => true
  | .cmpleuBI _ _ _ => true
  | .cmpltRR _ _ _ => false
  | .cmpltBR _ _ _ => false
  | .cmpltRI _ _ _ => true
  | .cmpltBI _ _ _ => true
  | .cmpltuRR _ _ _ => false
  | .cmpltuBR _ _ _ => false
  | .cmpltuRI _ _ _ => true
  | .cmpltuBI _ _ _ => true
  | .andlRR _ _ _ => false
  | .andlBR _ _ _ => false
  | .andlRI _ _ _ => true
  | .andlBI _ _ _ => true
  | .nandlRR _ _ _ => false
  | .nandlBR _ _ _ => false
  | .nandlRI _ _ _ => true
  | .nandlBI _ _ _ => true
  | .orlRR _ _ _ => false
  | .orlBR _ _ _ => false
  | .orlRI _ _ _ => true
  | .orlBI _ _ _ => true
  | .norlRR _ _ _ => false
  | .norlBR _ _ _ => false
  | .norlRI _ _ _ => true
  | .norlBI _ _ _ => true
  | .mul32R _ _ _ => false
  | .mul32I _ _ _ => true
  | .mul64hR _ _ _ => false
  | .mul64hI _ _ _ => true
  | .mul64huR _ _ _ => false
  | .mul64huI _ _ _ => true
  | .mulfracR _ _ _ => false
  | .mulfracI _ _ _ => true
  | .slctR _ _ _ _ => false
  | .slctI _ _ _ _ => true
  | .slctfR _ _ _ _ => false
  | .slctfI _ _ _ _ => true
  | .addcg _ _ _ _ _ => false
  | .divs _ _ _ _ _ => false
  | .imml _ => false
  | .immr _ => false
  | .prgins => false
  | .sbrk _ => false
  | .syscall _ => false
  | .breakOp => false
  | .ldw _ _ _ => true
  | .ldwD _ _ _ => true
  | .ldh _ _ _ => true
  | .ldhD _ _ _ => true
  | .ldhu _ _ _ => true
  | .ldhuD _ _ _ => true
  | .ldb _ _ _ => true
  | .ldbD _ _ _ => true
  | .ldbu _ _ _ => true
  | .ldbuD _ _ _ => true
  | .stw _ _ _ => true
  | .sth _ _ _ => true
  | .stb _ _ _ => true
  | .pft _ _ => true
  | .prgadd _ _ => true
  | .prgset _ _ => true
  | .sync => false
  | .prginspg _ _ => true
  | .pswset _ => false
  | .pswclr _ => false
  | .callImm _ => false
  | .callLink => false
  | .gotoImm _ => false
  | .gotoLink => false
  | .rfi => false
  | .br _ _ => false
  | .brf _ _ => false

/-- `imml` or `immr`. -/
def isExtension (i : Instr) : Bool :=
  match kindOf i with
  | .extLeft | .extRight => true
  | _ => false

/-- The immediate of `imml` or `immr`. -/
def extensionValue (i : Instr) : Option Imm23 :=
  match i with
  | .imml x | .immr x => some x
  | _ => none

/-- The operation requires the load/store unit (30_encoding.md R316). -/
def usesLsu (i : Instr) : Bool :=
  match kindOf i with
  | .memory | .psw | .rfi => true
  | _ => false

/-- The operation must be the first syllable (30_encoding.md R314). -/
def firstOnly (i : Instr) : Bool :=
  match kindOf i with
  | .transfer | .psw | .rfi => true
  | _ => false

/-- The operation may change the PC (10_state.md R97). -/
def changesPc (i : Instr) : Bool :=
  match kindOf i with
  | .transfer | .rfi => true
  | _ => false

/-! ## Syllables beside their neighbours -/

/-- A syllable of a bundle: its address, its operation and those of its neighbours in the bundle. -/
structure Syllable where
  addr : Word
  prev : Option Instr
  instr : Instr
  next : Option Instr
deriving DecidableEq, Repr

/-- The syllables of a bundle from the address of the first on. -/
def syllables (addr : Word) (prev : Option Instr) (is : List Instr) : List Syllable :=
  match is with
  | [] => []
  | i :: rest => ⟨addr, prev, i, rest.head?⟩ :: syllables (addr + 4#32) (some i) rest

/-- The extension an `immr` on the left or an `imml` on the right gives a syllable (30_encoding.md R300). -/
def Syllable.extension (x : Syllable) : Option Instr :=
  match x.prev, x.next with
  | some (.immr e), _ => some (.immr e)
  | _, some (.imml e) => some (.imml e)
  | _, _ => none

/-- Word address parity (30_encoding.md R293): bit 2 of the byte address. -/
def oddWord (a : Word) : Bool := a.getLsbD 2

/-! ## Legality (30_encoding.md R310 to R321) -/

/-- R315: multiplies at odd, extensions at even word addresses. -/
def parityOk (x : Syllable) : Bool :=
  match kindOf x.instr with
  | .multiply => oddWord x.addr
  | .extLeft | .extRight => !oddWord x.addr
  | _ => true

/-- R314: control transfers and PSW operations are the first syllable. -/
def placeOk (x : Syllable) : Bool := !firstOnly x.instr || x.prev.isNone

/-- R317: an extension has a partner that can be extended, and no operation has two. -/
def extensionOk (x : Syllable) : Bool :=
  match kindOf x.instr with
  | .extLeft => x.prev.any extendable
  | .extRight => x.next.any extendable
  | _ =>
    match x.prev, x.next with
    | some (.immr _), some (.imml _) => false
    | _, _ => true

/-- No two of a list are equal. -/
def distinct {α : Type} [DecidableEq α] (xs : List α) : Bool :=
  match xs with
  | [] => true
  | x :: rest => !rest.contains x && distinct rest

/-- R318: destinations are unique, R0 apart. -/
def destsOk (is : List Instr) : Bool :=
  distinct ((is.filterMap destG).filter (fun r => r != 0#6)) && distinct (is.filterMap destB)

/-- R316: at most one operation for the load/store unit. -/
def lsuOk (is : List Instr) : Bool := decide ((is.filter usesLsu).length ≤ 1)

/-- R321: `prgins` and `syscall` are alone. -/
def aloneOk (is : List Instr) : Bool := is.all (fun i => kindOf i != .alone) || is.length == 1

/-- R314 to R321 for the operations of a bundle at `addr`; R311 and R313 are the decoder's. -/
def legalOps (addr : Word) (is : List Instr) : Bool :=
  is.all Instr.wellFormed && lsuOk is && aloneOk is && destsOk is &&
  (syllables addr none is).all (fun x => parityOk x && placeOk x && extensionOk x)

/-- Bit 31 of a syllable (30_encoding.md R290). -/
def stopBit (w : Word) : Bool := w.getLsbD 31

/-- R312: the last syllable has its stop bit. -/
def hasStop (ws : List Word) : Bool := ws.getLast?.any stopBit

/-- The operation of a word, if it is one. -/
def operationOf (w : Word) : Option Instr := (decodeSyllable w).toOption

/-- The operations of the words of a bundle, if all decode (R311). -/
def operationsOf (ws : List Word) : Option (List Instr) := ws.mapM operationOf

/-- The operations of a legal bundle; none if it is illegal. -/
def legalBundle (addr : Word) (ws : List Word) : Option (List Instr) :=
  match operationsOf ws with
  | some is => if hasStop ws && legalOps addr is then some is else none
  | none => none

/-- The bundle holds `sbrk`, which reports SBREAK even if it is illegal (60_exceptions.md R521). -/
def holdsSbrk (ws : List Word) : Bool :=
  ws.any (fun w => (operationOf w).any (fun i => kindOf i == .sbrk))

/-- The operations of a bundle, each with its extension; extensions themselves are not among them. -/
def operations (addr : Word) (is : List Instr) : List (Instr × Option Instr) :=
  ((syllables addr none is).filter (fun x => !isExtension x.instr)).map (fun x => (x.instr, x.extension))

end Sys2Proof.Machine
end

