-- ==== Sys2Proof/Machine/Fetch.lean ====
section
/-! DEFINITION. Instruction fetch (30_encoding.md R292, 21_translation.md R255, 60_exceptions.md R522 to R526). -/

namespace Sys2Proof.Machine

/-- The word an instruction fetch reads at a physical address; none is a bus error (60_exceptions.md R522, 61 R583).
A stored word may still be fetched with an older value (20_memory.md R189; log 15). -/
def fetchPhys (s : State) (va pa : Word) : Option Word :=
  match windowOf s.cfg pa with
  | .intc _ | .dsu _ => none
  | .rom off => some (romWord s.cfg (off / 4))
  | .memory =>
    if busReadError s.cfg pa then none
    else
      let new := memLoad s.cfg.bigEndian s.mem .word pa
      match (staleValues s va pa).filter (fun w => w != new) with
      | [] => some new
      | olds => some (pick (Config.freeFetchChoice s.free va.toNat) new olds)

/-- The syllable at virtual address `va`, or the exception its fetch raises. -/
def fetchSyllable (s : State) (va : Word) : Except Raise Word :=
  match translateFetch s va with
  | .error e => .error e
  | .ok pa =>
    match fetchPhys s va pa with
    | some w => .ok w
    | none => .error (.plain .stbusIcError)

/-- What the fetch of a bundle gives: the syllables read, and the exception of the first that could not be. -/
structure Fetched where
  words : List Word
  error : Option Raise
deriving DecidableEq, Repr

/-- Syllables from `va` on, at most `n`, up to the first stop bit (30_encoding.md R292). -/
def fetchFrom (s : State) (n : Nat) (va : Word) : Fetched :=
  match n with
  | 0 => ⟨[], none⟩
  | k + 1 =>
    match fetchSyllable s va with
    | .error e => ⟨[], some e⟩
    | .ok w =>
      if stopBit w then ⟨[w], none⟩
      else
        let rest := fetchFrom s k (va + 4#32)
        ⟨w :: rest.words, rest.error⟩

/-- The bundle at PC. -/
def fetchBundle (s : State) : Fetched := fetchFrom s 4 s.pc

/-- The virtual address of the syllable at which the fetch of the bundle at PC ended with an exception. -/
def Fetched.failedAt (f : Fetched) (s : State) : Word := s.pc + BitVec.ofNat 32 (4 * f.words.length)

/-- A bus error that the fetch of the bundle at PC met has invalidated its line of the instruction cache
(20_memory.md R192, 60_exceptions.md R522; log 15). -/
def dropFailedLine (f : Fetched) (s : State) : State :=
  match f.error, translateFetch s (f.failedAt s) with
  | some ⟨.stbusIcError, _, _⟩, .ok pa =>
    { s with stale := s.stale.map (fun x => x.invalidateLine (f.failedAt s) pa) }
  | _, _ => s

end Sys2Proof.Machine
end

