-- ==== Sys2Proof/Machine/Run.lean ====
section
/-! DEFINITION. One step of the core (10_state.md R95): events at the bundle boundary, fetch, decode, evaluation of
every operation on the state before the bundle, and the outcome; with the stall of 61_platform_devices.md R627, idle
mode (R690) and the counting of R672 and R675. -/

namespace Sys2Proof.Machine

/-! ## Events at the bundle boundary -/

/-- With TRIGGER_ENABLE, a high trigger input requests a debug interrupt (61 R643). -/
def sampleTrigger (s : State) : State :=
  { s with dsu := { s.dsu with irqPending := s.dsu.irqPending || (s.dsu.triggerEnable && s.dsu.triggerIn) } }

/-- A debug interrupt is to be taken (60_exceptions.md R541). -/
def debugPending (s : State) : Bool := s.dsu.irqPending && !s.debugMode

/-- An external interrupt is to be taken (60_exceptions.md R530). -/
def interruptPending (s : State) : Bool := s.irq && s.intEnable

/-- The asynchronous members of `pending` (10_state.md R95). -/
def asyncRaises (s : State) : List Raise :=
  (if s.busErrorPending then [.plain .stbusDcError] else []) ++
  (if interruptPending s then [.plain .externInt] else [])

/-- A wake event of idle mode (60_exceptions.md R536). -/
def wakes (s : State) : Bool := debugPending s || s.busErrorPending || interruptPending s

/-! ## Priority (60_exceptions.md R520) -/

/-- The member of highest priority, the first among equals. -/
def pickRaise (rs : List Raise) : Option Raise :=
  match rs with
  | [] => none
  | r :: rest =>
    match pickRaise rest with
    | none => some r
    | some q => if q.exc.number < r.exc.number then some q else some r

/-- The exception an evaluated operation raised. -/
def Signal.exc (x : Signal) : Option Exc :=
  match x with
  | .raised e => some e
  | .done | .stalled => none

/-- Among the states of evaluated operations, the trap entry of highest priority. -/
def pickTrap (ts : List State) : Option (Exc × State) :=
  match ts with
  | [] => none
  | t :: rest =>
    match t.signal.exc, pickTrap rest with
    | none, q => q
    | some x, none => some (x, t)
    | some x, some q => if q.1.number < x.number then some q else some (x, t)

/-! ## Evaluation and commit -/

/-- An operation evaluated on `s`, its extension first. -/
def runOp (s : State) (o : Instr × Option Instr) : Host.Outcome State Fault Refusal :=
  match o.2 with
  | none => exec o.1 s
  | some e =>
    match exec e s with
    | .next t => exec o.1 t
    | .fault f => .fault f
    | .refused r => .refused r

/-- Every operation of a bundle evaluated on the same state `s` (10_state.md R91). -/
def runOps (s : State) (ops : List (Instr × Option Instr)) : Host.Outcome (List (Instr × State)) Fault Refusal :=
  match ops with
  | [] => .next []
  | o :: rest =>
    match runOp s o with
    | .next t =>
      match runOps s rest with
      | .next ts => .next ((o.1, t) :: ts)
      | .fault f => .fault f
      | .refused r => .refused r
    | .fault f => .fault f
    | .refused r => .refused r

/-- `acc` with the destinations of operation `i`, and NEXT_PC if it may change it, as they are in `t`. -/
def copyDests (i : Instr) (t acc : State) : State :=
  let a := match destG i with
    | some r => acc.writeR r (t.r r)
    | none => acc
  let b := match destB i with
    | some b => a.writeB b (t.b b)
    | none => a
  if changesPc i then { b with nextPc := t.nextPc } else b

/-- Where the commit of a bundle starts: the result of a lone operation or of the one load/store-unit operation, which
alone may change more than registers; else the state before the bundle. -/
def commitBase (s : State) (rs : List (Instr × State)) : State :=
  match rs with
  | [x] => x.2
  | _ =>
    match rs.find? (fun x => usesLsu x.1) with
    | some x => x.2
    | none => s

/-- The commit of a bundle (10_state.md R96): the writes of all operations together. -/
def commitAll (s : State) (rs : List (Instr × State)) : State :=
  rs.foldl (fun acc x => copyDests x.1 x.2 acc) (commitBase s rs)

/-- How a bundle ended. -/
inductive Ending where
  /-- It committed these syllables. -/
  | committed (is : List Instr)
  /-- A trap was taken instead. -/
  | trapped (x : Exc)
  /-- A debug interrupt was taken instead. -/
  | debug
  /-- It waits on an SDI port; these are its words. -/
  | waiting (ws : List Word)
deriving DecidableEq, Repr

/-- A bundle's end and the state it leaves. -/
structure BundleEnd where
  ending : Ending
  state : State
deriving DecidableEq, Repr

/-- The trap `r` taken on `s`. -/
def trapEnd (r : Raise) (s : State) : BundleEnd := ⟨.trapped r.exc, trapEntry r s⟩

/-- The end of the bundle `ws` whose operations have been evaluated (10_state.md R95 step 5, 61 R627). -/
def outcomeOf (s : State) (ws : List Word) (is : List Instr) (rs : List (Instr × State)) : BundleEnd :=
  match pickTrap (rs.map Prod.snd) with
  | some q => ⟨.trapped q.1, q.2⟩
  | none =>
    match (rs.map Prod.snd).find? (fun t => t.signal == .stalled) with
    | some t => ⟨.waiting ws, t⟩
    | none => ⟨.committed is, commitAll s rs⟩

/-- NEXT_PC of a bundle of `n` syllables (45_control_transfer.md R478). -/
def State.withNextPc (s : State) (n : Nat) : State := { s with nextPc := s.pc + BitVec.ofNat 32 (4 * n) }

/-- Steps 3 to 5 of 10_state.md R95 for a bundle that was fetched. An illegal bundle raises ILL_INST, or SBREAK if it
holds `sbrk` (60_exceptions.md R521). -/
def evalWords (s : State) (ws : List Word) : Host.Outcome BundleEnd Fault Refusal :=
  match legalBundle s.pc ws with
  | none => .next (trapEnd (.plain (if holdsSbrk ws then .sbreak else .illInst)) s)
  | some is =>
    match runOps (s.withNextPc ws.length) (operations s.pc is) with
    | .next rs => .next (outcomeOf (s.withNextPc ws.length) ws is rs)
    | .fault f => .fault f
    | .refused r => .refused r

/-- The exceptions of the fetch of the bundle at PC (60_exceptions.md R522, R525, R526). -/
def fetchRaises (s : State) (f : Fetched) : List Raise :=
  (if isIBreakHit s then [.plain .ibreak] else []) ++ f.error.toList

/-- Steps 2 to 5 of 10_state.md R95, with the asynchronous exceptions given. Those and the ones of the fetch have a
higher priority than any the content can raise (60_exceptions.md R521), and a bus error of the fetch the highest of all. -/
def evalBundle (async : List Raise) (s : State) : Host.Outcome BundleEnd Fault Refusal :=
  match pickRaise (async ++ fetchRaises s (fetchBundle s)) with
  | some r => .next (trapEnd r (dropFailedLine (fetchBundle s) s))
  | none => evalWords s (fetchBundle s).words

/-! ## Performance counters (61 R671, R672, R675) -/

/-- The transfer is taken on the state before the bundle. -/
def takenBranch (s : State) (i : Instr) : Bool :=
  match i with
  | .br c _ => s.b c
  | .brf c _ => !s.b c
  | _ => changesPc i

/-- The operation counts as a load or store of PM_EVENT_LDST (61 R671). -/
def countsLdst (i : Instr) : Bool :=
  match kindOf i with
  | .memory | .psw => true
  | _ => false

/-- How often an event of Table 67 happened; counter `k` of an event the model does not define grows freely. -/
def eventHits (s : State) (ending : Ending) (k : Nat) (event : Nat) : Nat :=
  let is := match ending with
    | .committed is => is
    | _ => []
  match event with
  | 10 => if is = [] then 0 else 1
  | 11 => is.countP countsLdst
  | 12 => is.countP (fun i => changesPc i && takenBranch s i)
  | 13 => is.countP (fun i => changesPc i && !takenBranch s i)
  | 14 =>
    match ending with
    | .trapped x => if x = .externInt then 0 else 1
    | .debug => 1
    | _ => 0
  | 15 => if ending = .trapped .externInt then 1 else 0
  | 18 => is.countP (fun i => !isExtension i)
  | 21 => is.countP isExtension
  | 28 | 29 | 30 | 31 => 0
  | _ => Config.freeEventCount s.free k

/-- Counter `k` after a bundle, from its value before counting (61 R672). -/
def countOne (s : State) (ending : Ending) (stored : Option CReg) (k : Fin 4) (v : Word) : Word :=
  if stored = some (.pmCnt k) then v
  else v + BitVec.ofNat 32 (eventHits s ending k.val s.pm.events[k].toNat)

/-- The counters after a bundle that started in `s`, ended so and left `t`. -/
def countEvents (s : State) (ending : Ending) (t : State) : State :=
  if s.pm.enb && t.cregStored != some .pmCr then
    let c (k : Fin 4) := countOne s ending t.cregStored k t.pm.cnt[k]
    { t with pm := { t.pm with cnt := #v[c 0, c 1, c 2, c 3] } }
  else t

/-! ## The end of a step -/

/-- A committed bundle brings the older contents of the saved registers (log 9) and of TLB_ASID (log 16) closer to their
end. -/
def tickHazards (t : State) : State :=
  { t with
    tlb := t.tlb.tick
    savedPsw := t.savedPsw.tick
    savedPc := t.savedPc.tick
    savedSavedPsw := t.savedSavedPsw.tick
    savedSavedPc := t.savedSavedPc.tick }

/-- The bundle committed. -/
def Ending.isCommitted (e : Ending) : Bool :=
  match e with
  | .committed _ => true
  | _ => false

/-- The words of a waiting bundle. -/
def Ending.waits (e : Ending) : Option (List Word) :=
  match e with
  | .waiting ws => some ws
  | _ => none

/-- Operation `i` invalidates a page of the instruction cache. -/
def invalidatesPage (i : Instr) : Bool :=
  match i with
  | .prginspg _ _ => true
  | _ => false

/-- A committed bundle invalidates the instruction buffer: it takes a branch (20_memory.md R171). -/
def refetches (s : State) (is : List Instr) : Bool := is.any (fun i => changesPc i && takenBranch s i)

/-- The instruction buffer invalidated by the branch of a bundle that started in `s` and left `t`. The invalidation of a
`prginspg` beside the branch is left to a later one (DESIGN CHOICE; log 15). -/
def refetch (s : State) (is : List Instr) (t : State) : State :=
  if is.any invalidatesPage then clearBufferOf s.stale t else clearBuffer t

/-- What a bundle's end brings besides its operations' effects: a committed one lets hazards run out and may invalidate the
instruction buffer; an exception or a debug interrupt empties the pipeline and that buffer (60_exceptions.md R517,
70_reset_and_hazards.md R735). -/
def settleBundle (s : State) (ending : Ending) (t : State) : State :=
  match ending with
  | .committed is => if refetches s is then refetch s is (tickHazards t) else tickHazards t
  | .trapped _ | .debug => emptyPipeline t
  | .waiting _ => t

/-- The end of a step: counters, then PC takes NEXT_PC and the model's own fields are put back. -/
def finish (s : State) (e : BundleEnd) : State :=
  let u := settleBundle s e.ending (countEvents s e.ending e.state)
  { u with
    pc := u.nextPc
    ext := none
    signal := .done
    cregStored := none
    waiting := e.ending.waits
    free := u.free + 1 }

/-- The step at a bundle boundary (10_state.md R95). -/
def boundaryStep (s : State) : Host.Outcome State Fault Refusal :=
  if debugPending s then .next (finish s ⟨.debug, debugEntry s⟩)
  else
    match evalBundle (asyncRaises s) s with
    | .next e => .next (finish s e)
    | .fault f => .fault f
    | .refused r => .refused r

/-- The end of a waiting bundle's next turn, given what the bundle itself comes to: events end the wait unless the
access can proceed (61 R627). -/
def stallEnd (s : State) (e : BundleEnd) : BundleEnd :=
  if e.ending.isCommitted then e
  else if debugPending s then ⟨.debug, debugEntry s⟩
  else
    match pickRaise (asyncRaises s) with
    | some r => trapEnd r s
    | none => e

/-- The step of a bundle `ws` that waits on an SDI port: it is held, not fetched again (61 R627; log 24). -/
def stalledStep (ws : List Word) (s : State) : Host.Outcome State Fault Refusal :=
  match evalWords s ws with
  | .next e => .next (finish s (stallEnd s e))
  | .fault f => .fault f
  | .refused r => .refused r

/-! ## The micro-TLBs (21_translation.md R225, R226; log 16) -/

/-- The base and the immediate of an operation that translates its effective address. -/
def translatedOperands (i : Instr) : Option (GReg × Imm9) :=
  match i with
  | .ldw _ a k | .ldwD _ a k | .ldh _ a k | .ldhD _ a k | .ldhu _ a k | .ldhuD _ a k | .ldb _ a k | .ldbD _ a k
  | .ldbu _ a k | .ldbuD _ a k | .stw _ a k | .sth _ a k | .stb _ a k | .pft a k | .prgadd a k => some (a, k)
  | _ => none

/-- The address an operation with its extension translates, if it does: none in control register space
(21_translation.md R228). -/
def translatedAddress (s : State) (o : Instr × Option Instr) : Option Word :=
  match translatedOperands o.1 with
  | some (a, k) =>
    let ea := State.ea { s with ext := o.2.bind extensionValue } a k
    if isCRegSpace ea then none else some ea
  | none => none

/-- The addresses the bundle `ws` at PC translates for data. -/
def dataAddresses (s : State) (ws : List Word) : List Word :=
  ((legalBundle s.pc ws).map (operations s.pc)).getD [] |>.filterMap (translatedAddress s)

/-- The addresses fetch translates: of the bundle at PC, and one cache line ahead (20_memory.md R171; log 16). -/
def fetchAddresses (s : State) : List Word := [s.pc, s.pc + 12#32, s.pc + 64#32]

/-- The ITLB with what the fetch of the bundle at PC brings into it. -/
def noteFetch (s : State) : State := { s with tlb := (fetchAddresses s).foldl (Tlb.noteAccess .fetch) s.tlb }

/-- The DTLB with what the bundle `ws` at PC brings into it. -/
def noteData (ws : List Word) (s : State) : State :=
  { s with tlb := (dataAddresses s ws).foldl (Tlb.noteAccess .data) s.tlb }

/-- The micro-TLBs with what the bundle at PC brings into them, if translation is on. -/
def noteAccesses (s : State) : State :=
  if s.tlbEnable then
    let t := noteFetch s
    noteData (t.waiting.getD (fetchBundle t).words) t
  else s

/-- One step of the core (10_state.md R95); an idle core without a wake event stays as it is (61 R690). -/
def coreStep (s : State) : Host.Outcome State Fault Refusal :=
  let t := sampleTrigger s
  if t.coreIdle && !wakes t then .next t
  else
    let u := noteAccesses { t with coreIdle := false }
    match u.waiting with
    | some ws => stalledStep ws u
    | none => boundaryStep u

end Sys2Proof.Machine
end

