-- ==== Sys2Proof/Machine/Env.lean ====
section
/-! DEFINITION. What the environment does between two bundles (61_platform_devices.md R581, R591, R602, R620, R631,
R641 to R647, R656, R657, R691; log 7), and the whole step. -/

namespace Sys2Proof.Machine

/-- One core clock cycle: PM_PCLK counts while ENB is 1 (61 R673). -/
def coreClock (s : State) : State :=
  if s.pm.enb then { s with pm := { s.pm with pclk := s.pm.pclk + 1#32 } } else s

/-- An item arrives at an input port: not while the core is idle (61 R691), the channel is in reset (R631) or full. -/
def sdiPush (s : State) (i : Fin 4) (v : Word) : State :=
  let p := s.sdi[i]
  if s.cfg.sdi[i].isInput && !s.coreIdle && !p.inReset && decide (p.chan.length < s.cfg.sdi[i].depth) then
    s.setSdi i { p with chan := p.chan ++ [v] }
  else s

/-- The far end takes the head item of an output port. -/
def sdiPop (s : State) (i : Fin 4) : State :=
  if s.cfg.sdi[i].isInput then s else s.setSdi i { s.sdi[i] with chan := s.sdi[i].chan.tail }

/-- A host poke writes successive registers, not gated by the write enables (61 R644); there is none above DSR31. -/
def hostPoke (s : State) (n : Nat) (vs : List Word) : State :=
  match vs with
  | [] => s
  | v :: rest => hostPoke (if h : n < 32 then dsrWrite s ⟨n, h⟩ v else s) (n + 1) rest

/-- A debug interrupt is requested (60_exceptions.md R541); requests merge (61 R647). -/
def requestDebug (s : State) : State := { s with dsu := { s.dsu with irqPending := true } }

/-- A message of the host, TAPLINK variant (61 R647, R656). PEEKED and a count above 32 are no-ops
(93_implementation_defined.md U21; log 22). -/
def taplinkMessage (m : HostMsg) (s : State) : State :=
  match m with
  | .poke r vs => if vs.length > 32 then s else hostPoke s r.val vs
  | .event reason _ => if reason = 1#3 then requestDebug s else s
  | .nop | .eventAck | .peek _ _ | .peeked => s

/-- A message of the host, JTAG variant (61 R647, R657). -/
def jtagMessage (m : HostMsg) (s : State) : State :=
  match m with
  | .poke r vs => hostPoke s r.val (vs.take 1)
  | .event reason channel => if reason = 1#3 ∧ channel = 0#3 then requestDebug s else s
  | .eventAck => { s with dsu := { s.dsu with eventAckPending := false } }
  | .nop | .peek _ _ | .peeked => s

/-- The link has sent what DSR2 holds for the host (61 R645). -/
def linkSent (s : State) : State :=
  if s.dsu.outputPending then
    { s with dsu := { s.dsu with
        outputPending := false
        eventAckPending := s.dsu.eventAckPending || s.cfg.debugVariant == .jtag } }
  else s

/-- A word write of another initiator of the bus: it reaches the registers of the peripheral block, the DSU's as a store
of the core does, in idle mode too (61 R583, R644, R691); what it does to external memory is out of scope (log 25). -/
def initiatorWrite (s : State) (pa v : Word) : State :=
  match windowOf s.cfg pa with
  | .intc off => intcWrite s off v
  | .dsu off => dsuWrite s off v
  | .rom _ | .memory => s

/-- One input of the environment. No register of the peripheral block changes when it is read. -/
def applyEvent (e : EnvEvent) (s : State) : State :=
  match e with
  | .busClock => { s with timers := s.timers.busClock }
  | .coreClock => coreClock s
  | .lines v => { s with intc := { s.intc with lines := v } }
  | .irqMaster v => { s with intc := { s.intc with irqMaster := v } }
  | .triggerIn v => { s with dsu := { s.dsu with triggerIn := v } }
  | .sdiPush i v => sdiPush s i v
  | .sdiPop i => sdiPop s i
  | .sdiResetIn i v => s.setSdi i (s.sdi[i].setResetIn s.cfg.sdi[i] v)
  | .host m => if s.cfg.debugVariant = .taplink then taplinkMessage m s else jtagMessage m s
  | .linkSent => linkSent s
  | .writeFailed k => lateWriteFails k s
  | .busRead _ => s
  | .busWrite pa v => initiatorWrite s pa v

/-- The inputs of one step, in order. -/
def applyEvents (es : List EnvEvent) (s : State) : State := es.foldl (fun t e => applyEvent e t) s

/-- The inputs of this step: the next of the list, or one bus clock cycle when it is empty (log 7). -/
def inputsNow (s : State) : List EnvEvent := s.env.headD [.busClock]

/-- What happens between two bundles: the step's inputs and one core clock cycle (61 R581). -/
def envTick (s : State) : State := coreClock (applyEvents (inputsNow s) { s with env := s.env.tail })

/-- One step of the machine: the core's, then the environment's. -/
def runStep (s : State) : Host.Outcome State Fault Refusal :=
  match coreStep s with
  | .next t => .next (envTick t)
  | .fault f => .fault f
  | .refused r => .refused r

end Sys2Proof.Machine
end

