-- ==== Sys2Proof/Machine/Load.lean ====
section
/-! DEFINITION. Placing one instruction word where the next step fetches it, in a legal bundle (log 5). -/

namespace Sys2Proof.Machine

/-- A word with its stop bit set. -/
def withStop (w : Word) : Word := w ||| 0x80000000#32

/-- `add $r0 = $r0, 0`, an operation that can be extended and changes nothing, stop bit clear. -/
def partner : Word := 0x08000000#32

/-- The address the bundle of a word must start at, from the address wanted: the next odd word address for a multiply
and for the partner of `imml`, the next even one for `immr` (30_encoding.md R315). -/
def bundleStart (k : Option Kind) (pc : Word) : Word :=
  match k with
  | some .multiply | some .extLeft => if oddWord pc then pc else pc + 4#32
  | some .extRight => if oddWord pc then pc + 4#32 else pc
  | _ => pc

/-- The bundle around a word: alone, or beside a partner for an extension (30_encoding.md R317). -/
def bundleOf (k : Option Kind) (w : Word) : List Word :=
  match k with
  | some .extLeft => [partner, withStop w]
  | some .extRight => [w, withStop partner]
  | _ => [withStop w]

/-- Words stored as 32-bit words in memory from physical address `pa` on. -/
def storeWords (big : Bool) (m : List Host.Cell) (pa : Word) (ws : List Word) : List Host.Cell :=
  match ws with
  | [] => m
  | w :: rest => storeWords big (memStore big m .word pa w) (pa + 4#32) rest

/-- Where the syllable at a virtual address is fetched from; the address itself where it cannot be. -/
def fetchAddress (s : State) (va : Word) : Word :=
  match translateFetch s va with
  | .ok pa => pa
  | .error _ => va

/-- `s` with the word `w` placed so that the next step fetches and runs it. -/
def placeWord (s : State) (w : Word) : State :=
  let k := (operationOf w).map kindOf
  let pc := bundleStart k s.pc
  { s with
    pc := pc
    nextPc := pc
    coreIdle := false
    waiting := none
    mem := storeWords s.cfg.bigEndian s.mem (fetchAddress s pc) (bundleOf k w) }

end Sys2Proof.Machine
end

