-- ==== Sys2Proof/Machine/Step.lean ====
section
/-! DEFINITION. The step function, and the placing of an instruction word at the place the next step fetches from. -/

namespace Sys2Proof.Machine

/-- One step of the machine (10_state.md R95). -/
def step (s : State) : Host.Outcome State Fault Refusal := runStep s

/-- `s` with the instruction whose bits are `w` stored where `step` fetches its next instruction (log 5). -/
def State.withFetchWord (s : State) (nbits w : Nat) : State := placeWord s (tableWord nbits w)

end Sys2Proof.Machine
end

