-- ==== Sys2Proof/Safety.lean ====
section
/-! DEFINITION. What holds between two steps of every run: the invariant of the machine (10_state.md R32, R45, 20_memory.md
R140, 21_translation.md R236, 61_platform_devices.md R620, R690), and when a step counts as a safe one. -/

namespace Sys2Proof.Machine

/-- Bits [1:0] of an address are zero (10_state.md R32). -/
def wordAligned (a : Word) : Prop := a &&& 3#32 = 0#32

/-- The model's own fields are at rest: no operation is being evaluated (log 6). -/
structure State.AtRest (s : State) : Prop where
  nextPc : s.nextPc = s.pc
  ext : s.ext = none
  signal : s.signal = .done
  cregStored : s.cregStored = none

/-- The invariant of the machine between two steps. -/
structure State.Inv (s : State) : Prop where
  /-- "The two LSBs of the PC are always zero" (10_state.md R32). -/
  pcAligned : wordAligned s.pc
  /-- The reserved bits of the PSW are zero (10_state.md R45). -/
  pswReserved : s.psw &&& ~~~pswWritable = 0#32
  /-- Memory is in its canonical form. -/
  memory : Memory.wf s.mem = true
  /-- TLB_INDEX names a UTLB entry (21_translation.md R236). -/
  tlbIndex : s.tlb.index.toNat ≤ 63
  /-- No SDI channel holds more items than its depth (61 R620, R622). -/
  sdiDepth : ∀ i : Fin 4, s.sdi[i].chan.length ≤ s.cfg.sdi[i].depth
  /-- A core in idle mode has empty output channels and no counting, and PM_CR.IDLE tells of it (61 R690, R691). -/
  idle : s.coreIdle = true → outputBusy s = false ∧ s.pm.enb = false ∧ s.pm.idle = true
  /-- No operation is being evaluated. -/
  atRest : s.AtRest

/-- A safe step answers a next state. -/
def safeStep (s : State) : Prop := ∃ t, step s = .next t

end Sys2Proof.Machine
end

