-- ==== Sys2Proof/Certificates/Slice0/Obligations.lean ====
section
/-! DEFINITION. The statements for the provers, from the numbered rules of spec/. The vocabulary of namespace Rules says
in the spec's own terms what the statements compare the model with: word layouts, tables of registers, pages. -/

namespace Sys2Proof.Rules

open Sys2Proof.Machine

/-! ## Words of the formats of 30_encoding.md R296; `p` is the stop bit -/

/-- Int3R. -/
def int3RWord (p : BitVec 1) (op : BitVec 5) (d b a : GReg) : Word :=
  p ++ 0#1 ++ 0#2 ++ 0#1 ++ 0#1 ++ op ++ 0#3 ++ d ++ b ++ a

/-- Int3I. -/
def int3IWord (p : BitVec 1) (op : BitVec 5) (i : Imm9) (d a : GReg) : Word :=
  p ++ 0#1 ++ 0#2 ++ 1#1 ++ 0#1 ++ op ++ i ++ d ++ a

/-- Monadic. -/
def monadicWord (p : BitVec 1) (sub : BitVec 9) (d a : GReg) : Word :=
  p ++ 0#1 ++ 0#2 ++ 1#1 ++ 0#1 ++ 0b01110#5 ++ sub ++ d ++ a

/-- Cmp3R_Reg, and Mul64R; `op` is bits [25:21]. -/
def cmpRRWord (p : BitVec 1) (op : BitVec 5) (d b a : GReg) : Word :=
  p ++ 0#1 ++ 0#2 ++ 0#1 ++ 1#1 ++ op ++ 0#3 ++ d ++ b ++ a

/-- Cmp3R_Br. -/
def cmpBRWord (p : BitVec 1) (op : BitVec 5) (t : BReg) (b a : GReg) : Word :=
  p ++ 0#1 ++ 0#2 ++ 0#1 ++ 1#1 ++ op ++ t ++ 0#6 ++ b ++ a

/-- Cmp3I_Reg, and Mul64I. -/
def cmpRIWord (p : BitVec 1) (op : BitVec 5) (i : Imm9) (d a : GReg) : Word :=
  p ++ 0#1 ++ 0#2 ++ 1#1 ++ 1#1 ++ op ++ i ++ d ++ a

/-- Cmp3I_Br. -/
def cmpBIWord (p : BitVec 1) (op : BitVec 5) (i : Imm9) (t : BReg) (a : GReg) : Word :=
  p ++ 0#1 ++ 0#2 ++ 1#1 ++ 1#1 ++ op ++ i ++ 0#3 ++ t ++ a

/-- SelectR; `op` is bits [26:24]. -/
def selectRWord (p : BitVec 1) (op : BitVec 3) (c : BReg) (d b a : GReg) : Word :=
  p ++ 0#1 ++ 1#2 ++ 0#1 ++ op ++ c ++ 0#3 ++ d ++ b ++ a

/-- SelectI. -/
def selectIWord (p : BitVec 1) (op : BitVec 3) (c : BReg) (i : Imm9) (d a : GReg) : Word :=
  p ++ 0#1 ++ 1#2 ++ 1#1 ++ op ++ c ++ i ++ d ++ a

/-- cgen; `op` is bits [27:24]. -/
def cgenWord (p : BitVec 1) (op : BitVec 4) (c t : BReg) (d b a : GReg) : Word :=
  p ++ 0#1 ++ 1#2 ++ op ++ c ++ t ++ d ++ b ++ a

/-- SysOp and SBreak; `op` is bits [27:21]. -/
def sysWord (p : BitVec 1) (op : BitVec 7) (n : Imm21) : Word := p ++ 0#1 ++ 1#2 ++ op ++ n

/-- Psw; `op` is bits [27:23]. -/
def pswWord (p : BitVec 1) (op : BitVec 5) (b : GReg) : Word := p ++ 0#1 ++ 2#2 ++ op ++ 0#2 ++ 0#9 ++ b ++ 0#6

/-- Call; `op` is bits [26:24], `l` bit 23. -/
def callWord (p : BitVec 1) (op : BitVec 3) (l : BitVec 1) (t : Imm23) : Word :=
  p ++ 0#1 ++ 3#2 ++ 0#1 ++ op ++ l ++ t

/-- Branch; `o` is bit 26. -/
def branchWord (p o : BitVec 1) (c : BReg) (t : Imm23) : Word := p ++ 0#1 ++ 3#2 ++ 1#1 ++ o ++ c ++ t

/-! ## Rows of the opcode map with their results -/

/-- The register and immediate forms of an opcode of the Int3 group decode so, and write `f` of their two sources to
the destination and nothing else. -/
def Int3Op (op : BitVec 5) (reg : GReg → GReg → GReg → Instr) (imm : GReg → GReg → Imm9 → Instr)
    (f : Word → Word → Word) : Prop :=
  (∀ (p : BitVec 1) (d a b : GReg) (s : State), decodeSyllable (int3RWord p op d b a) = .ok (reg d a b) ∧
    exec (reg d a b) s = .next (s.writeR d (f (s.r a) (s.r b)))) ∧
  (∀ (p : BitVec 1) (d a : GReg) (i : Imm9) (s : State), decodeSyllable (int3IWord p op i d a) = .ok (imm d a i) ∧
    exec (imm d a i) s = .next (s.writeR d (f (s.r a) (s.imm i))))

/-- The same for the four multiplies of the Cmp3/Mul64 group. -/
def Mul64Op (op : BitVec 5) (reg : GReg → GReg → GReg → Instr) (imm : GReg → GReg → Imm9 → Instr)
    (f : Word → Word → Word) : Prop :=
  (∀ (p : BitVec 1) (d a b : GReg) (s : State), decodeSyllable (cmpRRWord p op d b a) = .ok (reg d a b) ∧
    exec (reg d a b) s = .next (s.writeR d (f (s.r a) (s.r b)))) ∧
  (∀ (p : BitVec 1) (d a : GReg) (i : Imm9) (s : State), decodeSyllable (cmpRIWord p op i d a) = .ok (imm d a i) ∧
    exec (imm d a i) s = .next (s.writeR d (f (s.r a) (s.imm i))))

/-- A monadic operation by its sub-opcode. -/
def MonadicOp (sub : BitVec 9) (mk : GReg → GReg → Instr) (f : Word → Word) : Prop :=
  ∀ (p : BitVec 1) (d a : GReg) (s : State), decodeSyllable (monadicWord p sub d a) = .ok (mk d a) ∧
    exec (mk d a) s = .next (s.writeR d (f (s.r a)))

/-- The four forms of a compare or logical operation (41_compare_logical.md R394, R395): a general register destination
receives exactly 1 or 0, a branch register the truth value, and nothing else is written. -/
def CompareOp (op : BitVec 4) (rr : GReg → GReg → GReg → Instr) (br : BReg → GReg → GReg → Instr)
    (ri : GReg → GReg → Imm9 → Instr) (bi : BReg → GReg → Imm9 → Instr) (f : Word → Word → Bool) : Prop :=
  (∀ (p : BitVec 1) (d a b : GReg) (s : State), decodeSyllable (cmpRRWord p (0#1 ++ op) d b a) = .ok (rr d a b) ∧
    exec (rr d a b) s = .next (s.writeR d (if f (s.r a) (s.r b) then 1#32 else 0#32))) ∧
  (∀ (p : BitVec 1) (t : BReg) (a b : GReg) (s : State), decodeSyllable (cmpBRWord p (1#1 ++ op) t b a) = .ok (br t a b) ∧
    exec (br t a b) s = .next (s.writeB t (f (s.r a) (s.r b)))) ∧
  (∀ (p : BitVec 1) (d a : GReg) (i : Imm9) (s : State), decodeSyllable (cmpRIWord p (0#1 ++ op) i d a) = .ok (ri d a i) ∧
    exec (ri d a i) s = .next (s.writeR d (if f (s.r a) (s.imm i) then 1#32 else 0#32))) ∧
  (∀ (p : BitVec 1) (t : BReg) (a : GReg) (i : Imm9) (s : State),
    decodeSyllable (cmpBIWord p (1#1 ++ op) i t a) = .ok (bi t a i) ∧
    exec (bi t a i) s = .next (s.writeB t (f (s.r a) (s.imm i))))

/-- The distance of a shift: the low 8 bits of the second source (40_integer.md R377). -/
def distance (y : Word) : Nat := (y.setWidth 8).toNat

/-- The lower half-word of a source, sign-extended and zero-extended (43_multiply.md R430). -/
def lowS (y : Word) : Word := (y.setWidth 16).signExtend 32

/-- The unsigned lower half-word. -/
def lowU (y : Word) : Word := (y.setWidth 16).setWidth 32

/-- The signed upper half-word. -/
def highS (y : Word) : Word := (y.extractLsb' 16 16).signExtend 32

/-- The unsigned upper half-word. -/
def highU (y : Word) : Word := (y.extractLsb' 16 16).setWidth 32

/-! ## Extensions and addresses -/

/-- Imm of format 01: `imml` has bit 23 clear, `immr` set (30_encoding.md R301). -/
def extWord (p o : BitVec 1) (x : Imm23) : Word := p ++ 0#1 ++ 1#2 ++ 0b0101#4 ++ o ++ x

/-- Load and Store of format 10; `op` is bits [27:23], `x` bits [11:6]. -/
def memoryWord (p : BitVec 1) (op : BitVec 5) (i : Imm9) (x a : GReg) : Word :=
  p ++ 0#1 ++ 2#2 ++ op ++ 0#2 ++ i ++ x ++ a

/-- A control register address (20_memory.md R147). -/
def InCRegSpace (a : Word) : Prop := 0xFFFF0000 ≤ a.toNat

/-- A data breakpoint is enabled and matches (20_memory.md R161; 61 R654 says which addresses match). -/
def DataBreak (s : State) (a : Word) : Prop := s.psw.getLsbD 8 = true ∧ dataBreakPoint s.dbreak a = true

/-! ## Memory -/

/-- The number of `n` bytes of memory from `pa` on, the first least significant. -/
def littleNumber (m : List Host.Cell) (pa : Word) (n : Nat) : Nat :=
  match n with
  | 0 => 0
  | k + 1 => (memByte m pa.toNat).toNat + 256 * littleNumber m (pa + 1#32) k

/-- The same with the first byte most significant. -/
def bigNumber (m : List Host.Cell) (pa : Word) (n : Nat) : Nat :=
  match n with
  | 0 => 0
  | k + 1 => 256 ^ k * (memByte m pa.toNat).toNat + bigNumber m (pa + 1#32) k

/-- `MEM[pa FOR n]` (20_memory.md R141). -/
def memNumber (big : Bool) (m : List Host.Cell) (pa : Word) (n : Nat) : Nat :=
  if big then bigNumber m pa n else littleNumber m pa n

/-- The word a load of `n` bytes writes: sign-extended or zero-extended (20_memory.md R146). -/
def loadedWord (signed : Bool) (n v : Nat) : Word :=
  if signed then (BitVec.ofNat (8 * n) v).signExtend 32 else BitVec.ofNat 32 v

/-- A physical address that is external memory and answers reads (20_memory.md R152, R165). -/
def ReadableMemory (s : State) (pa : Word) : Prop := windowOf s.cfg pa = .memory ∧ busReadError s.cfg pa = false

/-- A physical address that is external memory and takes writes, no ROM (20_memory.md R155, R190, 00_scope.md R9). -/
def WritableMemory (s : State) (pa : Word) : Prop :=
  windowOf s.cfg pa = .memory ∧ busWriteError s.cfg pa = false ∧ romAt s.cfg pa = false

/-- A data read of `n` bytes at `pa` meets a bus error: external memory that does not answer, or a register or the ROM of
the peripheral block in an access that is cached or no word (20_memory.md R152, 61 R583). -/
def ReadFails (s : State) (n : Nat) (cached : Bool) (pa : Word) : Prop :=
  (windowOf s.cfg pa = .memory ∧ busReadError s.cfg pa = true) ∨
  (windowOf s.cfg pa ≠ .memory ∧ (n ≠ 4 ∨ cached = true))

/-- A load of `n` bytes at `a` raises nothing: no breakpoint, outside control register space, aligned, translated by
one page if translation is on, and readable (20_memory.md R150, R161). -/
structure ReadPasses (s : State) (n : Nat) (a : Word) : Prop where
  noBreak : ¬DataBreak s a
  space : ¬InCRegSpace a
  aligned : a.toNat % n = 0
  mapped : noTranslation s a = false
  single : multiMapping s a = false
  allowed : readViolation s a = false

/-- A store of `n` bytes at `a` raises nothing (20_memory.md R154, R161). -/
structure WritePasses (s : State) (n : Nat) (a : Word) : Prop where
  noBreak : ¬DataBreak s a
  space : ¬InCRegSpace a
  aligned : a.toNat % n = 0
  mapped : noTranslation s a = false
  single : multiMapping s a = false
  allowed : writeViolation s a = false

/-- An access of `n` bytes at `a` to control register space or memory is refused translation by none or several pages,
or the page lacks what `violation` says (21_translation.md R250 to R253). -/
def NotTranslated (violation : State → Word → Bool) (s : State) (a : Word) : Prop :=
  noTranslation s a = true ∨ multiMapping s a = true ∨ violation s a = true

/-- The state after an operation raised `x` with value `v` on `s`, TLB_EXCAUSE apart: what 60_exceptions.md R514 writes, and
slr_valid cleared (70_reset_and_hazards.md R722, decision D35; log 10). -/
def Raises (x : Exc) (v : Word) (s t : State) : Prop :=
  t.signal = .raised x ∧ t.excauseno = BitVec.ofNat 5 x.number ∧ t.exaddress = v ∧
  t.savedPsw.value = s.psw ∧ t.savedPc.value = s.pc ∧ t.psw = s.psw &&& 0xFFFFFCFC#32 ∧
  t.nextPc = s.handlerPc &&& 0xFFFFFFFC#32 ∧ t.slrValid = false ∧
  { t with
    signal := s.signal, excauseno := s.excauseno, exaddress := s.exaddress, savedPsw := s.savedPsw, savedPc := s.savedPc,
    psw := s.psw, nextPc := s.nextPc, slrValid := s.slrValid, busErrorPending := s.busErrorPending,
    tlb := { t.tlb with excause := s.tlb.excause } } = s

/-- `t` is `s` but for the record of what instruction fetch may still see of stored words (log 15). -/
def SameButFetch (s t : State) : Prop := { t with stale := s.stale } = s

/-- The word `w` of the debug ROM at offset `off` of it: the one the parameters give, if they give one, and the one an
instruction fetch from `pa` reads (61_platform_devices.md R583, R648). -/
def DebugRomWord (s : State) (pa : Word) (off : Nat) (w : Word) : Prop :=
  (∀ v, s.cfg.debugRom[off / 4]? = some v → w = v) ∧ ∀ va, fetchPhys s va pa = some w

/-- The same where TLB_EXCAUSE does not change. -/
def RaisesPlain (x : Exc) (v : Word) (s t : State) : Prop := Raises x v s t ∧ t.tlb = s.tlb

/-- A normal load by its opcode bits [27:23]: its word decodes to it, and where nothing is raised it writes the
extended contents of memory to its destination and changes nothing else but, if it is uncached, the record of older
instruction words (20_memory.md R179; log 15) (44_load_store_cache.md R435 to R443). -/
def LoadRow (op : BitVec 5) (mk : GReg → GReg → Imm9 → Instr) (n : Nat) (signed : Bool) : Prop :=
  ∀ (p : BitVec 1) (d a : GReg) (i : Imm9) (s : State),
    decodeSyllable (memoryWord p op i d a) = .ok (mk d a i) ∧
    (ReadPasses s n (s.imm i + s.r a) → ReadableMemory s (translate s (s.imm i + s.r a)) →
      ∃ t, exec (mk d a i) s = .next t ∧ SameButFetch (s.writeR d (loadedWord signed n
        (memNumber s.cfg.bigEndian s.mem (translate s (s.imm i + s.r a)) n))) t)

/-- A dismissible load: in control register space it gives 0; elsewhere, where it does not raise, it gives what the
normal load would, if the address is aligned, mapped, readable and inside an SCU region, and 0 if not; nothing else
changes but the record of older instruction words (log 15) (20_memory.md R151, R153, R160). -/
def DismissibleRow (op : BitVec 5) (mk : GReg → GReg → Imm9 → Instr) (n : Nat) (signed : Bool) : Prop :=
  ∀ (p : BitVec 1) (d a : GReg) (i : Imm9) (s : State) (ea : Word), ea = s.imm i + s.r a →
    decodeSyllable (memoryWord p op i d a) = .ok (mk d a i) ∧
    (¬DataBreak s ea → InCRegSpace ea → exec (mk d a i) s = .next (s.writeR d 0#32)) ∧
    (ReadPasses s n ea → ReadableMemory s (translate s ea) → scuHit s (translate s ea) = true →
      ∃ t, exec (mk d a i) s = .next t ∧ SameButFetch (s.writeR d (loadedWord signed n
        (memNumber s.cfg.bigEndian s.mem (translate s ea) n))) t) ∧
    (¬DataBreak s ea → ¬InCRegSpace ea → multiMapping s ea = false →
      (ea.toNat % n = 0 ∨ s.psw.getLsbD 4 = false) → (noTranslation s ea = false ∨ s.psw.getLsbD 3 = false) →
      (ea.toNat % n ≠ 0 ∨ noTranslation s ea = true ∨ readViolation s ea = true ∨
        scuHit s (translate s ea) = false) →
      ∃ t, exec (mk d a i) s = .next t ∧ SameButFetch (s.writeR d 0#32) t)

/-- A store: where nothing is raised it writes the low bytes of its source in the byte order of the core and changes
nothing else but the record of older instruction words (log 15); canonical memory stays canonical; a store to ROM changes
no more than that record (log 4) (44_load_store_cache.md R445 to R447, 20_memory.md R141, R155). -/
def StoreRow (op : BitVec 5) (mk : GReg → GReg → Imm9 → Instr) (n : Nat) : Prop :=
  ∀ (p : BitVec 1) (b a : GReg) (i : Imm9) (s : State) (ea pa : Word), ea = s.imm i + s.r a → pa = translate s ea →
    decodeSyllable (memoryWord p op i b a) = .ok (mk b a i) ∧
    (WritePasses s n ea → WritableMemory s pa → Memory.wf s.mem = true →
      ∃ t, exec (mk b a i) s = .next t ∧ { t with mem := s.mem, stale := s.stale } = s ∧ Memory.wf t.mem = true ∧
        (∀ k, k < n → memByte t.mem (pa + BitVec.ofNat 32 k).toNat =
          BitVec.ofNat 8 ((s.r b).toNat / 256 ^ (if s.cfg.bigEndian then n - 1 - k else k))) ∧
        (∀ x, (∀ k, k < n → x ≠ (pa + BitVec.ofNat 32 k).toNat) → memByte t.mem x = memByte s.mem x)) ∧
    (WritePasses s n ea → windowOf s.cfg pa = .memory → busWriteError s.cfg pa = false → romAt s.cfg pa = true →
      ∃ t, exec (mk b a i) s = .next t ∧ SameButFetch s t)

/-- A normal load or a store of `n` bytes raises, in this order: DBREAK; in control register space, if it is no word,
CREG_ACCESS_VIOLATION; MISALIGNED_TRAP; DTLB, with WRITE of TLB_EXCAUSE as given and SPEC clear
(20_memory.md R150, R154, R160, R161). -/
def TrapRow (mk : GReg → GReg → Imm9 → Instr) (n : Nat) (write : Bool) (violation : State → Word → Bool) : Prop :=
  ∀ (x a : GReg) (i : Imm9) (s : State) (ea : Word), ea = s.imm i + s.r a →
    ∃ t, exec (mk x a i) s = .next t ∧
      (DataBreak s ea → RaisesPlain .dbreak ea s t) ∧
      (¬DataBreak s ea → InCRegSpace ea → n ≠ 4 → RaisesPlain .cregAccessViolation ea s t) ∧
      (¬DataBreak s ea → ¬InCRegSpace ea → ea.toNat % n ≠ 0 → RaisesPlain .misalignedTrap ea s t) ∧
      (¬DataBreak s ea → ¬InCRegSpace ea → ea.toNat % n = 0 → NotTranslated violation s ea →
        Raises .dtlb ea s t ∧ t.tlb.excause.write = write ∧ t.tlb.excause.spec = false)

/-- A dismissible load raises DBREAK; MISALIGNED_TRAP only with SPECLOAD_MALIGNTRAP_EN; DTLB only for several pages, or
for none with TLB_DYNAMIC, with SPEC of TLB_EXCAUSE set (20_memory.md R151). -/
def DismissibleTrapRow (mk : GReg → GReg → Imm9 → Instr) (n : Nat) : Prop :=
  ∀ (d a : GReg) (i : Imm9) (s : State) (ea : Word), ea = s.imm i + s.r a →
    ∃ t, exec (mk d a i) s = .next t ∧
      (DataBreak s ea → RaisesPlain .dbreak ea s t) ∧
      (¬DataBreak s ea → ¬InCRegSpace ea → ea.toNat % n ≠ 0 → s.psw.getLsbD 4 = true →
        RaisesPlain .misalignedTrap ea s t) ∧
      (¬DataBreak s ea → ¬InCRegSpace ea → (ea.toNat % n = 0 ∨ s.psw.getLsbD 4 = false) →
        (multiMapping s ea = true ∨ (noTranslation s ea = true ∧ s.psw.getLsbD 3 = true)) →
        Raises .dtlb ea s t ∧ t.tlb.excause.write = false ∧ t.tlb.excause.spec = true)

/-- An operation that reads and writes registers only: integer, compare, select, carry or multiply. -/
def RegisterOnly (i : Instr) : Prop := (kindOf i = .plain ∧ i ≠ .breakOp) ∨ kindOf i = .multiply

/-- `i` loads into `d` from `k` plus register `a`. -/
def IsLoad (i : Instr) (d a : GReg) (k : Imm9) : Prop :=
  i ∈ ([.ldw d a k, .ldwD d a k, .ldh d a k, .ldhD d a k, .ldhu d a k, .ldhuD d a k, .ldb d a k, .ldbD d a k,
    .ldbu d a k, .ldbuD d a k] : List Instr)

/-- `i` stores `n` bytes of register `b` at `k` plus register `a`. -/
def IsStore (i : Instr) (n : Nat) (b a : GReg) (k : Imm9) : Prop :=
  (i, n) ∈ ([(.stw b a k, 4), (.sth b a k, 2), (.stb b a k, 1)] : List (Instr × Nat))

/-- `i` is the normal load of `n` bytes, sign-extended or not. -/
def IsNormalLoad (i : Instr) (n : Nat) (signed : Bool) (d a : GReg) (k : Imm9) : Prop :=
  (i, n, signed) ∈ ([(.ldw d a k, 4, false), (.ldh d a k, 2, true), (.ldhu d a k, 2, false), (.ldb d a k, 1, true),
    (.ldbu d a k, 1, false)] : List (Instr × Nat × Bool))

/-- `i` is the dismissible load of `n` bytes. -/
def IsDismissibleLoad (i : Instr) (n : Nat) (d a : GReg) (k : Imm9) : Prop :=
  (i, n) ∈ ([(.ldwD d a k, 4), (.ldhD d a k, 2), (.ldhuD d a k, 2), (.ldbD d a k, 1), (.ldbuD d a k, 1)] :
    List (Instr × Nat))

/-! ## Control registers (10_state.md R55) -/

/-- The offsets from 0xFFFF0000 of the registers of 10_state.md R55. -/
def CRegOffset (off : Nat) : Prop :=
  off % 8 = 0 ∧ ((0xFF00 ≤ off ∧ off ≤ 0xFFF8) ∨ (0xFE70 ≤ off ∧ off ≤ 0xFE80) ∨ (0xFE00 ≤ off ∧ off ≤ 0xFE40) ∨
    (0xFDC0 ≤ off ∧ off ≤ 0xFDD0) ∨ (0xF800 ≤ off ∧ off ≤ 0xF828) ∨
    (0xE000 ≤ off ∧ off ≤ 0xEFFF ∧ off % 0x400 ≤ 0x20) ∨ (0xD000 ≤ off ∧ off ≤ 0xD038))

/-- DATA or READY of an SDI port whose PRIV field is 1 (61 R630). -/
def OpenToUser (s : State) (off : Nat) : Prop :=
  ∃ i : Fin 4, s.sdi[i].priv = 1#2 ∧ (off = 0xE000 + 0x400 * i.val ∨ off = 0xE008 + 0x400 * i.val)

/-- The control register at `off` reads as `val` in supervisor mode and reading it changes nothing. -/
def CRegReads (off : Nat) (val : State → Word) : Prop :=
  ∀ (d a : GReg) (i : Imm9) (s : State), s.psw.getLsbD 0 = false → ¬DataBreak s (s.imm i + s.r a) →
    (s.imm i + s.r a).toNat = 0xFFFF0000 + off → exec (.ldw d a i) s = .next (s.writeR d (val s))

/-- The register `r` at `off`, as far as the counters of its bundle depend on it (61_platform_devices.md R672; log 26). -/
def NotedAs (off : Nat) (r : CReg) : Prop :=
  (r = .pmCr ↔ off = 0xF800) ∧ ∀ k : Fin 4, (r = .pmCnt k ↔ off = 0xF808 + 8 * k.val)

/-- A store of `v` to the control register at `off` in supervisor mode leads from `s` to a state that `post v s`
admits, where the model notes in addition which register was stored to (log 26): PM_CR for a store to it, PM_CNTk for one
to that, another register for any other store. -/
def CRegWrites (off : Nat) (post : Word → State → State → Prop) : Prop :=
  ∀ (b a : GReg) (i : Imm9) (s : State), s.psw.getLsbD 0 = false → ¬DataBreak s (s.imm i + s.r a) →
    (s.imm i + s.r a).toNat = 0xFFFF0000 + off →
    ∃ t r, NotedAs off r ∧ post (s.r b) s t ∧ exec (.stw b a i) s = .next { t with cregStored := some r }

/-- A register that a store gives a value, nothing else. -/
def CRegTakes (off : Nat) (upd : Word → State → State) : Prop := CRegWrites off (fun v s t => t = upd v s)

/-- One bit as a number. -/
def bitNumber (b : Bool) : Nat := if b then 1 else 0

/-- A UTLB entry as TLB_ENTRY0 shows it (21_translation.md R237). -/
def entryNumber (e : TlbEntry) : Nat :=
  e.asid.toNat + bitNumber e.shared * 2 ^ 8 + e.protSuper.toNat * 2 ^ 9 + e.protUser.toNat * 2 ^ 12 +
  bitNumber e.dirty * 2 ^ 15 + e.policy.toNat * 2 ^ 16 + e.size.toNat * 2 ^ 20 + e.partition.toNat * 2 ^ 23

/-- A store to the UTLB entry that TLB_INDEX selects replaces it and nothing else, but for the record of what it was
(log 16). -/
def EntryTakes (off : Nat) (upd : Word → TlbEntry → TlbEntry) : Prop :=
  CRegWrites off (fun v s t => ∀ e, s.tlb.entries[s.tlb.index.toNat]? = some e →
    t.tlb.entries = s.tlb.entries.setIfInBounds s.tlb.index.toNat (upd v e) ∧
    { t with tlb := { t.tlb with entries := s.tlb.entries, history := s.tlb.history } } = s)

/-- `LfsrNext` (21_translation.md R245). -/
def lfsrClocked (x : BitVec 16) : BitVec 16 :=
  x <<< 1 ||| BitVec.ofNat 16 (bitNumber (x.getLsbD 15 ^^ x.getLsbD 14 ^^ x.getLsbD 12 ^^ x.getLsbD 3))

/-- A load of the UTLB entry that TLB_INDEX selects. -/
def EntryReads (off : Nat) (val : TlbEntry → Nat) : Prop :=
  ∀ (d a : GReg) (i : Imm9) (s : State) (e : TlbEntry), s.psw.getLsbD 0 = false →
    ¬DataBreak s (s.imm i + s.r a) → (s.imm i + s.r a).toNat = 0xFFFF0000 + off →
    s.tlb.entries[s.tlb.index.toNat]? = some e → exec (.ldw d a i) s = .next (s.writeR d (BitVec.ofNat 32 (val e)))

/-! ## SDI ports (61_platform_devices.md R620 to R631) -/

/-- DATA (`off` 0) or READY (`off` 8) of port `i` is addressed in a mode that may use it, and the channel is not in
reset. -/
structure SdiAccess (off : Nat) (s : State) (i : Fin 4) (a : Word) : Prop where
  noBreak : ¬DataBreak s a
  address : a.toNat = 0xFFFFE000 + 0x400 * i.val + off
  allowed : s.psw.getLsbD 0 = false ∨ s.sdi[i].priv = 1#2
  running : s.sdi[i].resetIn = false ∧ s.sdi[i].resetOut = false

/-- The state after a DATA access of port `i` succeeded and left these items. -/
def sdiAfter (s : State) (i : Fin 4) (items : List Word) : State :=
  { s with sdi := s.sdi.set i { s.sdi[i] with chan := items, timeout := s.sdi[i].count } }

/-- How many DATA accesses of port `i` would not wait (61 R623). -/
def sdiAvailable (s : State) (i : Fin 4) : Nat :=
  if s.cfg.sdi[i].isInput then s.sdi[i].chan.length else s.cfg.sdi[i].depth - s.sdi[i].chan.length

/-- The state of an access that waits one more cycle. -/
def sdiWaits (s t : State) (i : Fin 4) : Prop :=
  t = { s with
    signal := .stalled, nextPc := s.pc
    sdi := s.sdi.set i { s.sdi[i] with timeout := s.sdi[i].timeout - (if s.sdi[i].timeoutDisable then 0#32 else 1#32) } }

/-- What an access that cannot proceed does in one turn of the stall loop (61 R627, R628). -/
def sdiBlocked (s : State) (i : Fin 4) (o : Host.Outcome State Fault Refusal) : Prop :=
  ∃ t, o = .next t ∧
    (s.sdi[i].timeoutDisable = false → s.sdi[i].timeout = 0#32 →
      RaisesPlain .sdiTimeout (BitVec.ofNat 32 (0xFFFFE000 + 0x400 * i.val)) s t) ∧
    ((s.sdi[i].timeoutDisable = true ∨ s.sdi[i].timeout ≠ 0#32) → sdiWaits s t i)

/-! ## Writes that fail later (20_memory.md R190, 93 U6) -/

/-- Byte `i` of a word, counted as in memory. -/
def wordByte (big : Bool) (w : Word) (i : Nat) : Byte := BitVec.ofNat 8 (w.toNat / 256 ^ (if big then 3 - i else i))

/-- No record from `lo` to below `hi` is of a store that wrote byte `i` of the word at `addr`. -/
def NotStored (records : List StaleWord) (lo hi : Nat) (addr : Word) (i : Nat) : Prop :=
  ∀ m y, lo ≤ m → m < hi → records[m]? = some y → y.addr = addr → y.bytes.getLsbD i = false

/-- `now` is `new` where `c` holds and `old` elsewhere. -/
def Chosen (c : Prop) (new old now : Byte) : Prop := (c → now = new) ∧ (¬c → now = old)

/-- The state `t` after the write of the store `x`, record `k` of `s`, is lost: of the bytes it wrote, those no later store
wrote are as before it, and the older values that later records hold follow; of that record no byte is left to lose. -/
structure WriteLost (k : Nat) (x : StaleWord) (s t : State) : Prop where
  pending : t.busErrorPending = true
  rest : { t with mem := s.mem, stale := s.stale, busErrorPending := s.busErrorPending } = s
  canonical : Memory.wf t.mem = true
  undone : ∀ i, i < 4 → Chosen (x.bytes.getLsbD i = true ∧ NotStored s.stale 0 k x.addr i)
    (wordByte s.cfg.bigEndian x.old i) (memByte s.mem (x.addr + BitVec.ofNat 32 i).toNat)
    (memByte t.mem (x.addr + BitVec.ofNat 32 i).toNat)
  others : ∀ a, (∀ i, i < 4 → a ≠ (x.addr + BitVec.ofNat 32 i).toNat) → memByte t.mem a = memByte s.mem a
  records : ∀ j y, s.stale[j]? = some y → ∃ z, t.stale[j]? = some z ∧ { z with old := y.old, bytes := y.bytes } = y ∧
    z.bytes = (if j = k then 0#4 else y.bytes) ∧
    ∀ i, i < 4 → Chosen
      (j < k ∧ y.addr = x.addr ∧ x.bytes.getLsbD i = true ∧ NotStored s.stale (j + 1) k x.addr i)
      (wordByte s.cfg.bigEndian x.old i) (wordByte s.cfg.bigEndian y.old i) (wordByte s.cfg.bigEndian z.old i)

/-! ## Peripheral registers (61_platform_devices.md R580 to R605, R641 to R645) -/

/-- A word load at a virtual address whose translation is `base + off` of the peripheral block, uncached. -/
structure PeripheralRead (s : State) (a base : Word) (off : Nat) : Prop where
  passes : ReadPasses s 4 a
  uncached : cachedAccess s a = false
  address : translate s a = s.cfg.peripheralBase + base + BitVec.ofNat 32 off

/-- A word store at such an address, in any cache policy. -/
structure PeripheralWrite (s : State) (a base : Word) (off : Nat) : Prop where
  passes : WritePasses s 4 a
  address : translate s a = s.cfg.peripheralBase + base + BitVec.ofNat 32 off

/-- A load of the interrupt controller block at `off` gives `val`. -/
def IntcReads (off : Nat) (val : State → Word) : Prop :=
  ∀ (d a : GReg) (i : Imm9) (s : State), PeripheralRead s (s.imm i + s.r a) s.cfg.intcrBase off →
    exec (.ldw d a i) s = .next (s.writeR d (val s))

/-- A store to the interrupt controller block at `off`. -/
def IntcTakes (off : Nat) (upd : Word → State → State) : Prop :=
  ∀ (b a : GReg) (i : Imm9) (s : State), PeripheralWrite s (s.imm i + s.r a) s.cfg.intcrBase off →
    exec (.stw b a i) s = .next (upd (s.r b) s)

/-- The offsets of the block at which 61_platform_devices.md R592 and R601 put a register that is not reserved. -/
def intcOffsets : List Nat :=
  [0x00, 0x08, 0x10, 0x18, 0x20, 0x28, 0x30, 0x38, 0x40, 0x48, 0x108, 0x110, 0x118, 0x120,
   0x200, 0x208, 0x210, 0x218, 0x220, 0x228, 0x230, 0x238, 0x240, 0x248]

/-- Changes of the interrupt controller's registers and of one timer. -/
def withMask (f : BitVec 64 → BitVec 64) (s : State) : State := { s with intc := { s.intc with mask := f s.intc.mask } }

/-- The same for INTTEST. -/
def withTest (f : BitVec 64 → BitVec 64) (s : State) : State := { s with intc := { s.intc with test := f s.intc.test } }

/-- The same for a timer. -/
def withTimer (i : Fin 3) (f : Timer → Timer) (s : State) : State :=
  { s with timers := { s.timers with timer := s.timers.timer.set i (f s.timers.timer[i]) } }

/-- INTPENDING: the interrupt inputs, of which the lowest three are the timers, or-ed with INTTEST (61 R590, R598). -/
def pendingWord (s : State) : BitVec 64 :=
  ((s.intc.lines.setWidth 64) <<< 3 |||
    BitVec.ofNat 64 (bitNumber (s.timers.timer[0].status && s.timers.timer[0].intEnable) +
      2 * bitNumber (s.timers.timer[1].status && s.timers.timer[1].intEnable) +
      4 * bitNumber (s.timers.timer[2].status && s.timers.timer[2].intEnable))) ||| s.intc.test

/-- A load of DSRn gives `val`. -/
def DsrReads (n : Nat) (val : State → Word) : Prop :=
  ∀ (d a : GReg) (i : Imm9) (s : State), PeripheralRead s (s.imm i + s.r a) s.cfg.dsuBase (8 * n) →
    windowOf s.cfg (translate s (s.imm i + s.r a)) = .dsu (8 * n) →
    exec (.ldw d a i) s = .next (s.writeR d (val s))

/-- A store to DSRn does this if the core's mode may write, and nothing if not (61 R644). -/
def DsrTakes (n : Nat) (upd : Word → State → State) : Prop :=
  ∀ (b a : GReg) (i : Imm9) (s : State), PeripheralWrite s (s.imm i + s.r a) s.cfg.dsuBase (8 * n) →
    windowOf s.cfg (translate s (s.imm i + s.r a)) = .dsu (8 * n) →
    exec (.stw b a i) s = .next
      (if (s.psw.getLsbD 0 = false ∧ s.dsu.supervisorWrite = true) ∨ (s.psw.getLsbD 0 = true ∧ s.dsu.userWrite = true)
       then upd (s.r b) s else s)

/-! ## Translation (21_translation.md R239 to R253) -/

/-- An enabled entry has pages of `2 ^ k` bytes. -/
def PageBits (e : TlbEntry) (k : Nat) : Prop :=
  (e.size = 1#3 ∧ k = 13) ∨ (e.size = 2#3 ∧ k = 22) ∨ (e.size = 3#3 ∧ k = 28)

/-- Entry `i` matches the address `a` (R249). -/
def Matches (t : Tlb) (a : Word) (i : Fin 64) : Prop :=
  ∃ k, PageBits t.entries[i] k ∧ (t.entries[i].shared = true ∨ t.entries[i].asid = t.asid) ∧
    a.toNat / 2 ^ k = t.entries[i].vaddr.toNat / 2 ^ (k - 13)

/-- Entry `i` alone matches. -/
def OnlyMatch (t : Tlb) (a : Word) (i : Fin 64) : Prop := Matches t a i ∧ ∀ j, Matches t a j → j = i

/-- Two entries match. -/
def SeveralMatch (t : Tlb) (a : Word) : Prop := ∃ i j, i ≠ j ∧ Matches t a i ∧ Matches t a j

/-- The mode in force has this permission on the page of an entry: 0 execute, 1 read, 2 write (R240). -/
def Permits (s : State) (e : TlbEntry) (bit : Nat) : Prop :=
  (if s.psw.getLsbD 0 then e.protUser else e.protSuper).getLsbD bit = true

/-- The physical address of `a` on a page of `2 ^ k` bytes (R251). -/
def pageAddress (e : TlbEntry) (k : Nat) (a : Word) : Word :=
  BitVec.ofNat 32 (e.paddr.toNat / 2 ^ (k - 13) * 2 ^ k + a.toNat % 2 ^ k)

/-- Every copy is of an entry the UTLB still holds, which is the only one that matches any address it matches (a held
copy hides a second match, R250). -/
def CopiesCurrent (t : Tlb) (xs : List TlbCopy) : Prop :=
  ∀ x ∈ xs, ∃ i : Fin 64, x.index = i.val ∧ t.entries[i] = x.entry ∧ ∀ a, Matches t a i → OnlyMatch t a i

/-- No older translation is in use: no change is under way, and the micro-TLBs hold copies of present entries only, which
no second entry overlaps (R260; log 16). -/
structure UpToDate (t : Tlb) : Prop where
  recent : t.history.recent = []
  landed : t.history.landed = []
  fetch : CopiesCurrent t (t.history.itlb.copies ++ t.history.itlb.pipe)
  data : CopiesCurrent t (t.history.dtlb.copies ++ t.history.dtlb.pipe)

/-- The entries tell the whole story: translation is on and no older translation is in use. -/
structure CoherentTlb (s : State) : Prop where
  enabled : s.psw.getLsbD 2 = true
  coherent : UpToDate s.tlb

/-- An access outside control register space that no earlier check stops. -/
structure ReachesTlb (s : State) (n : Nat) (a : Word) : Prop where
  noBreak : ¬DataBreak s a
  space : ¬InCRegSpace a
  aligned : a.toNat % n = 0

/-- `i` answers a next state with this TLB_EXCAUSE. -/
def RecordsCause (i : Instr) (s : State) (e : TlbExcause) : Prop :=
  ∃ t, exec i s = .next t ∧ t.signal = .raised .dtlb ∧ t.tlb.excause = e

/-! ## Breakpoints (61_platform_devices.md R654, R655) -/

/-- The enabled conditions of a breakpoint unit on unsigned numbers; `masked` is the address and-ed with the upper
register. -/
def BreakCondition (c : BitVec 4) (a lo up masked : Nat) : Prop :=
  (c.getLsbD 0 = true ∧ lo ≤ a ∧ a ≤ up) ∨ (c.getLsbD 1 = true ∧ (a < lo ∨ up < a)) ∨
  (c.getLsbD 2 = true ∧ (a = lo ∨ a = up)) ∨ (c.getLsbD 3 = true ∧ masked = lo)

/-! ## PSW and cache operations -/

/-- What `PswWrite` stores: writable bits only, and DEBUG_MODE only if it was set (46_system.md R493). -/
def pswStored (old new : Word) : Word := if old.getLsbD 12 then new &&& 0x131F#32 else new &&& 0x031F#32

/-- A saved register as an `rfi` may use it: its value, or what it held before a store too recent for the hazard of
70_reset_and_hazards.md R720 (log 9). -/
def SavedHolds (x : SavedReg) (v : Word) : Prop := v = x.value ∨ ∃ n, (v, n) ∈ x.olds

/-- The supervisor-only operations of 60_exceptions.md R561. -/
def IsPrivileged (i : Instr) : Prop :=
  i = .rfi ∨ i = .prgins ∨ (∃ b, i = .pswset b) ∨ (∃ b, i = .pswclr b) ∨ (∃ a k, i = .prginspg a k)

/-- A target `t` words from the bundle (45_control_transfer.md R478). -/
def relativeTarget (pc : Word) (t : Imm23) : Word := pc + t.signExtend 32 <<< 2

/-- The idle macro in a state that lets the core enter idle mode (61_platform_devices.md R690). -/
def EntersIdle (s : State) (t : Imm23) : Prop :=
  t = 0#23 ∧ s.nextPc = s.pc + 4#32 ∧ s.pm.enb = false ∧
  ∀ k : Fin 4, s.cfg.sdi[k].isInput = false → s.sdi[k].chan = []

/-! ## Bundles (30_encoding.md R310 to R321) and steps -/

/-- The address of syllable `k` of a bundle. -/
def syllableAddr (pc : Word) (k : Nat) : Word := pc + BitVec.ofNat 32 (4 * k)

/-- R314 to R317 for syllable `k` of the bundle at `pc`: branches and PSW operations first; multiplies at odd, extensions
at even word addresses; an extension beside an operation that can be extended; no operation with two extensions. -/
structure PlaceLegal (pc : Word) (is : List Instr) (k : Nat) (i : Instr) : Prop where
  first : kindOf i = .transfer ∨ kindOf i = .psw ∨ kindOf i = .rfi → k = 0
  odd : kindOf i = .multiply → (syllableAddr pc k).getLsbD 2 = true
  even : kindOf i = .extLeft ∨ kindOf i = .extRight → (syllableAddr pc k).getLsbD 2 = false
  left : kindOf i = .extLeft → 0 < k ∧ ∃ j, is[k - 1]? = some j ∧ extendable j = true
  right : kindOf i = .extRight → ∃ j, is[k + 1]? = some j ∧ extendable j = true
  single : ∀ x y, 0 < k → is[k - 1]? = some (.immr x) → is[k + 1]? ≠ some (.imml y)

/-- The two operations share a destination register other than R0 (R318). -/
def SameDestination (i j : Instr) : Prop :=
  (∃ r, r ≠ 0#6 ∧ destG i = some r ∧ destG j = some r) ∨ (∃ b, destB i = some b ∧ destB j = some b)

/-- R311 to R321: every syllable decodes and is well formed by itself, the last has the stop bit, every place is legal,
the load/store unit is used once at most, destinations are unique, and `prgins` and `syscall` are alone. -/
structure Legal (pc : Word) (ws : List Word) (is : List Instr) : Prop where
  decodes : ws.map decodeSyllable = is.map Except.ok
  stop : ∃ w, ws.getLast? = some w ∧ w.getLsbD 31 = true
  formed : ∀ i ∈ is, i.wellFormed = true
  places : ∀ (k : Nat) (i : Instr), is[k]? = some i → PlaceLegal pc is k i
  unit : ∀ (j k : Nat) (x y : Instr), is[j]? = some x → is[k]? = some y → usesLsu x = true → usesLsu y = true → j = k
  dests : ∀ (j k : Nat) (x y : Instr), is[j]? = some x → is[k]? = some y → SameDestination x y → j = k
  alone : ∀ i ∈ is, kindOf i = .alone → is.length = 1

/-- Between two steps of a running core: no operation in progress, not idle, no bundle waiting. -/
structure AtBoundary (s : State) : Prop where
  rest : s.AtRest
  awake : s.coreIdle = false
  running : s.waiting = none

/-- A debug interrupt is requested: it is pending, or the trigger input is high and enabled (60_exceptions.md R541, 61
R643). -/
def DebugRequested (s : State) : Prop :=
  s.dsu.irqPending = true ∨ (s.dsu.triggerEnable = true ∧ s.dsu.triggerIn = true)

/-- No debug interrupt is due: none is requested, or the core is in debug mode. -/
def NoDebugDue (s : State) : Prop := ¬DebugRequested s ∨ s.psw.getLsbD 12 = true

/-- Nothing asynchronous is due before the bundle, and no instruction breakpoint hits. -/
structure Undisturbed (s : State) : Prop where
  boundary : AtBoundary s
  debug : NoDebugDue s
  bus : s.busErrorPending = false
  interrupt : s.irq = false ∨ s.psw.getLsbD 1 = false
  ibreak : isIBreakHit s = false

/-- The pipeline and the instruction buffer hold nothing of what came before: every change of the UTLB and of TLB_ASID is
seen but for what a micro-TLB holds, and every invalidation of the instruction cache is effective (60_exceptions.md R517,
70_reset_and_hazards.md R735; log 15, log 16). -/
structure Emptied (t : State) : Prop where
  recent : t.tlb.history.recent = []
  landed : t.tlb.history.landed = []
  fetch : t.tlb.history.itlb.pipe = []
  data : t.tlb.history.dtlb.pipe = []
  buffer : ∀ x ∈ t.stale, x.invalidated &&& ~~~x.clean = 0#4

/-- `t` is `s` after the trap `x` with EXADDRESS `v`: what 60_exceptions.md R514 writes, the pipeline and the instruction
buffer emptied (R517), and nothing else but the counters of the performance monitor, what the micro-TLBs may hold (log 16)
and the model's own counter of free values. The older contents a too early `rfi` might use are gone from the saved pair
(log 9); slr_valid is cleared (70_reset_and_hazards.md R722, decision D35; log 10). -/
def Trapped (x : Exc) (v : Word) (s t : State) : Prop :=
  t.excauseno = BitVec.ofNat 5 x.number ∧ t.exaddress = v ∧ t.savedPsw = ⟨s.psw, []⟩ ∧ t.savedPc = ⟨s.pc, []⟩ ∧
  t.psw = s.psw &&& ~~~0x303#32 ∧ t.pc = s.handlerPc &&& 0xFFFFFFFC#32 ∧
  (x ≠ .itlb → x ≠ .dtlb → t.tlb.excause = s.tlb.excause) ∧ t.slrValid = false ∧
  t.busErrorPending = (if x = .stbusDcError then false else s.busErrorPending) ∧
  { t with
    excauseno := s.excauseno, exaddress := s.exaddress, savedPsw := s.savedPsw, savedPc := s.savedPc, psw := s.psw
    pc := s.pc, nextPc := s.nextPc, busErrorPending := s.busErrorPending, slrValid := s.slrValid, free := s.free
    tlb := { t.tlb with excause := s.tlb.excause, history := s.tlb.history }, pm := { t.pm with cnt := s.pm.cnt }
    stale := s.stale, waiting := s.waiting } = s ∧ t.waiting = none ∧ Emptied t

/-- `t` is `s` after debug interrupt entry (60_exceptions.md R540, R541), with the pipeline and the instruction buffer
emptied (70_reset_and_hazards.md R735) and slr_valid cleared (R722, decision D35; log 10), but for the counters of the
performance monitor and what the micro-TLBs may hold. -/
def DebugEntered (s t : State) : Prop :=
  t.savedSavedPsw.value = s.savedPsw.value ∧ t.savedSavedPc.value = s.savedPc.value ∧ t.savedPsw.value = s.psw ∧
  t.savedPc.value = s.pc ∧ t.psw = (s.psw &&& ~~~0x307#32) ||| 0x1000#32 ∧
  t.pc = s.cfg.debugHandlerPc &&& 0xFFFFFFFC#32 ∧ t.dsu.irqPending = false ∧ t.slrValid = false ∧
  { t with
    savedSavedPsw := s.savedSavedPsw, savedSavedPc := s.savedSavedPc, savedPsw := s.savedPsw, savedPc := s.savedPc
    psw := s.psw, pc := s.pc, nextPc := s.nextPc, slrValid := s.slrValid, free := s.free
    tlb := { t.tlb with history := s.tlb.history }, stale := s.stale, waiting := s.waiting
    dsu := { t.dsu with irqPending := s.dsu.irqPending }, pm := { t.pm with cnt := s.pm.cnt } } = s ∧
  t.waiting = none ∧ Emptied t

/-- A core that is awake and whose bundle `ws` waits on an SDI port, between two steps; `b` is what the bundle comes to in
its next turn (61 R627). -/
structure StallTurn (s : State) (ws : List Word) (b : BundleEnd) : Prop where
  rest : s.AtRest
  awake : s.coreIdle = false
  held : s.waiting = some ws
  turn : evalWords (noteAccesses (sampleTrigger s)) ws = .next b

/-- A trap the bundle at PC, if it is fetched and legal, would raise while its operations are evaluated. -/
def OperationRaises (s : State) (x : Exc) : Prop :=
  ∃ is o t, legalBundle s.pc (fetchBundle s).words = some is ∧ o ∈ operations s.pc is ∧
    runOp (s.withNextPc (fetchBundle s).words.length) o = .next t ∧ t.signal = .raised x

/-- Where the trap `x` of the bundle at PC comes from, with the EXADDRESS `v` (R516) and the TLB_EXCAUSE `e`
(21_translation.md R257) it records: an asynchronous exception; an instruction breakpoint; the fetch; a bundle that is not
legal; or an operation of a legal bundle, which records what it raised with. -/
inductive TrapSource (async : List Raise) (s : State) : Exc → Word → TlbExcause → Prop where
  | asynchronous {x : Exc} (due : .plain x ∈ async) : TrapSource async s x 0#32 s.tlb.excause
  | breakpoint (hit : isIBreakHit s = true) : TrapSource async s .ibreak 0#32 s.tlb.excause
  | fetch {r : Raise} (failed : (fetchBundle s).error = some r) :
    TrapSource async s r.exc r.value (r.tlb.getD s.tlb.excause)
  | illegal {x : Exc} (trap : x = .sbreak ∨ x = .illInst) (none : legalBundle s.pc (fetchBundle s).words = none) :
    TrapSource async s x 0#32 s.tlb.excause
  | operation {x : Exc} {is : List Instr} {o : Instr × Option Instr} {t : State}
    (legal : legalBundle s.pc (fetchBundle s).words = some is) (member : o ∈ operations s.pc is)
    (result : runOp (s.withNextPc (fetchBundle s).words.length) o = .next t) (raised : t.signal = .raised x) :
    TrapSource async s x t.exaddress t.tlb.excause

/-- An exception due at the boundary or raised by the fetch. -/
def BoundaryRaises (s : State) (x : Exc) : Prop :=
  (x = .stbusDcError ∧ s.busErrorPending = true) ∨ (x = .externInt ∧ s.irq = true ∧ s.psw.getLsbD 1 = true) ∨
  (x = .ibreak ∧ isIBreakHit s = true) ∨ (∃ r, (fetchBundle s).error = some r ∧ r.exc = x)

/-- The state only a supervisor may change (60_exceptions.md R561); what the micro-TLBs may hold is not among it. -/
def SamePrivilegedState (s t : State) : Prop :=
  t.psw = s.psw ∧ t.handlerPc = s.handlerPc ∧ t.savedPsw.value = s.savedPsw.value ∧
  t.savedPc.value = s.savedPc.value ∧ t.savedSavedPsw.value = s.savedSavedPsw.value ∧
  t.savedSavedPc.value = s.savedSavedPc.value ∧ t.excauseno = s.excauseno ∧ t.exaddress = s.exaddress ∧
  t.scratch = s.scratch ∧ t.partition = s.partition ∧ { t.tlb with history := s.tlb.history } = s.tlb ∧
  t.scu = s.scu ∧ t.dbreak = s.dbreak ∧ t.ibreak = s.ibreak ∧ t.pm.enb = s.pm.enb ∧ t.pm.events = s.pm.events ∧
  t.pm.pclk = s.pm.pclk ∧ t.cfg = s.cfg ∧
  ∀ i : Fin 4, t.sdi[i].priv = s.sdi[i].priv ∧ t.sdi[i].resetOut = s.sdi[i].resetOut ∧
    t.sdi[i].timeoutDisable = s.sdi[i].timeoutDisable ∧ t.sdi[i].count = s.sdi[i].count

/-- How often an event that the spec counts exactly happened in a bundle that committed `is` from `s` (61 R671, R675). -/
def committedEvents (s : State) (is : List Instr) (event : Nat) : Option Nat :=
  if event = 10 then some 1
  else if event = 11 then some (is.countP (fun i => decide (kindOf i = .memory ∨ kindOf i = .psw)))
  else if event = 12 then some (is.countP (fun i => match i with
    | .br c _ => s.b c
    | .brf c _ => !s.b c
    | .callImm _ | .callLink | .gotoImm _ | .gotoLink | .rfi => true
    | _ => false))
  else if event = 13 then some (is.countP (fun i => match i with
    | .br c _ => !s.b c
    | .brf c _ => s.b c
    | _ => false))
  else if event = 18 then some (is.countP (fun i => !isExtension i))
  else if event = 21 then some (is.countP isExtension)
  else if event = 14 ∨ event = 15 ∨ 28 ≤ event then some 0
  else none

/-- The same for a trap: exceptions are event 14, EXTERN_INT is event 15. -/
def trapEvents (x : Exc) (event : Nat) : Option Nat :=
  if event = 14 then some (if x = .externInt then 0 else 1)
  else if event = 15 then some (if x = .externInt then 1 else 0)
  else if event = 10 ∨ event = 11 ∨ event = 12 ∨ event = 13 ∨ event = 18 ∨ event = 21 ∨ 28 ≤ event then some 0
  else none

end Sys2Proof.Rules

open Sys2Proof Sys2Proof.Machine Sys2Proof.Rules

/-! ## Integer operations (40_integer.md) -/

/-- R350, R351, R355 to R358: `add`, `sub` (SRC1 is subtracted) and the four shift-and-add operations wrap modulo 2^32,
raise nothing and write their destination only; encodings included. -/
def Obligations.AddSubtractAndShiftAddResults : Prop :=
  Int3Op 0b00000#5 .addR .addI (fun x y => x + y) ∧
  Int3Op 0b00001#5 .subR .subI (fun x y => y - x) ∧
  Int3Op 0b00101#5 .sh1addR .sh1addI (fun x y => x <<< 1 + y) ∧
  Int3Op 0b00110#5 .sh2addR .sh2addI (fun x y => x <<< 2 + y) ∧
  Int3Op 0b00111#5 .sh3addR .sh3addI (fun x y => x <<< 3 + y) ∧
  Int3Op 0b01000#5 .sh4addR .sh4addI (fun x y => x <<< 4 + y)

/-- R352 to R354 and R377: the distance is the low 8 bits of the second source; 32 to 255 shift every bit out. -/
def Obligations.ShiftResults : Prop :=
  Int3Op 0b00010#5 .shlR .shlI (fun x y => if distance y > 31 then 0#32 else x <<< distance y) ∧
  Int3Op 0b00011#5 .shrR .shrI (fun x y => x.sshiftRight (distance y)) ∧
  Int3Op 0b00100#5 .shruR .shruI (fun x y => x >>> distance y)

/-- R359 to R367: the bitwise operations, of which `andc` and `orc` complement the first source, and the signed and
unsigned maximum and minimum. -/
def Obligations.BitwiseAndMaximumMinimumResults : Prop :=
  Int3Op 0b01001#5 .andR .andI (fun x y => x &&& y) ∧
  Int3Op 0b01010#5 .andcR .andcI (fun x y => ~~~x &&& y) ∧
  Int3Op 0b01011#5 .orR .orI (fun x y => x ||| y) ∧
  Int3Op 0b01100#5 .orcR .orcI (fun x y => ~~~x ||| y) ∧
  Int3Op 0b01101#5 .xorR .xorI (fun x y => x ^^^ y) ∧
  Int3Op 0b10000#5 .maxR .maxI (fun x y => if y.slt x then x else y) ∧
  Int3Op 0b10001#5 .maxuR .maxuI (fun x y => if y.ult x then x else y) ∧
  Int3Op 0b10010#5 .minR .minI (fun x y => if x.slt y then x else y) ∧
  Int3Op 0b10011#5 .minuR .minuI (fun x y => if x.ult y then x else y)

/-- R368 to R372: the sign and zero extensions, the byte swap and the count of leading zeros (32 for 0). -/
def Obligations.MonadicResults : Prop :=
  MonadicOp 0#9 .sxtb (fun x => (x.setWidth 8).signExtend 32) ∧
  MonadicOp 1#9 .sxth (fun x => (x.setWidth 16).signExtend 32) ∧
  MonadicOp 2#9 .bswap (fun x => x <<< 24 ||| (x <<< 8 &&& 0x00FF0000#32) ||| (x >>> 8 &&& 0x0000FF00#32) ||| x >>> 24) ∧
  MonadicOp 3#9 .zxth (fun x => x &&& 0x0000FFFF#32) ∧
  MonadicOp 4#9 .clz (fun x => if x = 0#32 then 32#32 else BitVec.ofNat 32 (31 - Nat.log2 x.toNat))

/-! ## Compare and logical operations (41_compare_logical.md) -/

/-- R380 to R389, R394, R395: the ten compares in their four forms. -/
def Obligations.CompareResults : Prop :=
  CompareOp 0b0000#4 .cmpeqRR .cmpeqBR .cmpeqRI .cmpeqBI (fun x y => x == y) ∧
  CompareOp 0b0001#4 .cmpneRR .cmpneBR .cmpneRI .cmpneBI (fun x y => x != y) ∧
  CompareOp 0b0010#4 .cmpgeRR .cmpgeBR .cmpgeRI .cmpgeBI (fun x y => y.sle x) ∧
  CompareOp 0b0011#4 .cmpgeuRR .cmpgeuBR .cmpgeuRI .cmpgeuBI (fun x y => y.ule x) ∧
  CompareOp 0b0100#4 .cmpgtRR .cmpgtBR .cmpgtRI .cmpgtBI (fun x y => y.slt x) ∧
  CompareOp 0b0101#4 .cmpgtuRR .cmpgtuBR .cmpgtuRI .cmpgtuBI (fun x y => y.ult x) ∧
  CompareOp 0b0110#4 .cmpleRR .cmpleBR .cmpleRI .cmpleBI (fun x y => x.sle y) ∧
  CompareOp 0b0111#4 .cmpleuRR .cmpleuBR .cmpleuRI .cmpleuBI (fun x y => x.ule y) ∧
  CompareOp 0b1000#4 .cmpltRR .cmpltBR .cmpltRI .cmpltBI (fun x y => x.slt y) ∧
  CompareOp 0b1001#4 .cmpltuRR .cmpltuBR .cmpltuRI .cmpltuBI (fun x y => x.ult y)

/-- R390 to R395: the four logical operations, which take a source that is not zero as true, in their four forms. -/
def Obligations.LogicalResults : Prop :=
  CompareOp 0b1010#4 .andlRR .andlBR .andlRI .andlBI (fun x y => x != 0#32 && y != 0#32) ∧
  CompareOp 0b1011#4 .nandlRR .nandlBR .nandlRI .nandlBI (fun x y => !(x != 0#32 && y != 0#32)) ∧
  CompareOp 0b1100#4 .orlRR .orlBR .orlRI .orlBI (fun x y => x != 0#32 || y != 0#32) ∧
  CompareOp 0b1101#4 .norlRR .norlBR .norlRI .norlBI (fun x y => !(x != 0#32 || y != 0#32))

/-! ## Select, carry and divide step (42_select_carry_divide.md) -/

/-- R400 to R403: `slct` chooses the first source when the branch register is 1, `slctf` when it is 0; `addcg` writes the
low 32 bits of the sum of its three sources and its carry; `divs` shifts the carry in, adds the divisor if the first source
was negative, else subtracts it, and writes the old sign bit. -/
def Obligations.SelectCarryAndDivideStepResults : Prop :=
  (∀ (p : BitVec 1) (d : GReg) (c : BReg) (a b : GReg) (s : State),
    decodeSyllable (selectRWord p 0b000#3 c d b a) = .ok (.slctR d c a b) ∧
    exec (.slctR d c a b) s = .next (s.writeR d (if s.b c = true then s.r a else s.r b)) ∧
    decodeSyllable (selectRWord p 0b001#3 c d b a) = .ok (.slctfR d c a b) ∧
    exec (.slctfR d c a b) s = .next (s.writeR d (if s.b c = false then s.r a else s.r b))) ∧
  (∀ (p : BitVec 1) (d : GReg) (c : BReg) (a : GReg) (i : Imm9) (s : State),
    decodeSyllable (selectIWord p 0b000#3 c i d a) = .ok (.slctI d c a i) ∧
    exec (.slctI d c a i) s = .next (s.writeR d (if s.b c = true then s.r a else s.imm i)) ∧
    decodeSyllable (selectIWord p 0b001#3 c i d a) = .ok (.slctfI d c a i) ∧
    exec (.slctfI d c a i) s = .next (s.writeR d (if s.b c = false then s.r a else s.imm i))) ∧
  (∀ (p : BitVec 1) (d : GReg) (t c : BReg) (a b : GReg) (s : State),
    decodeSyllable (cgenWord p 0b0010#4 c t d b a) = .ok (.addcg d t c a b) ∧
    exec (.addcg d t c a b) s = .next
      ((s.writeR d (s.r a + s.r b + (if s.b c then 1#32 else 0#32))).writeB t
        (decide (2 ^ 32 ≤ (s.r a).toNat + (s.r b).toNat + (if s.b c then 1 else 0)))) ∧
    decodeSyllable (cgenWord p 0b0100#4 c t d b a) = .ok (.divs d t c a b) ∧
    exec (.divs d t c a b) s = .next
      ((s.writeR d
        (if (s.r a).msb then (s.r a <<< 1 ||| (if s.b c then 1#32 else 0#32)) + s.r b
         else (s.r a <<< 1 ||| (if s.b c then 1#32 else 0#32)) - s.r b)).writeB t (s.r a).msb))

/-! ## Multiplies (43_multiply.md) -/

/-- R411, R413, R415, R416, R417, R420, R423: the multiplies of a word by a half-word. -/
def Obligations.WordByHalfMultiplyResults : Prop :=
  Int3Op 0b10101#5 .mullR .mullI (fun x y => x * lowS y) ∧
  Int3Op 0b10110#5 .mulluR .mulluI (fun x y => x * lowU y) ∧
  Int3Op 0b10111#5 .mulhR .mulhI (fun x y => x * highS y) ∧
  Int3Op 0b11000#5 .mulhuR .mulhuI (fun x y => x * highU y) ∧
  Int3Op 0b11111#5 .mulhsR .mulhsI (fun x y => (x * highU y) <<< 16) ∧
  Int3Op 0b10100#5 .mulhhsR .mulhhsI (fun x y => (x.signExtend 48 * (y.extractLsb' 16 16).signExtend 48).extractLsb' 16 32) ∧
  Int3Op 0b01111#5 .mullhusR .mullhusI
    (fun x y => ((x.signExtend 48 * (y.setWidth 16).setWidth 48).extractLsb' 32 16).signExtend 32)

/-- R412, R414, R418, R419, R421, R422: the multiplies of two half-words. -/
def Obligations.HalfByHalfMultiplyResults : Prop :=
  Int3Op 0b11001#5 .mulllR .mulllI (fun x y => lowS x * lowS y) ∧
  Int3Op 0b11010#5 .mullluR .mullluI (fun x y => lowU x * lowU y) ∧
  Int3Op 0b11011#5 .mullhR .mullhI (fun x y => lowS x * highS y) ∧
  Int3Op 0b11100#5 .mullhuR .mullhuI (fun x y => lowU x * highU y) ∧
  Int3Op 0b11101#5 .mulhhR .mulhhI (fun x y => highS x * highS y) ∧
  Int3Op 0b11110#5 .mulhhuR .mulhhuI (fun x y => highU x * highU y)

/-- R424 to R427: the 32 by 32 multiplies; `mulfrac` rounds, and saturates for -1 times -1 only. -/
def Obligations.WordByWordMultiplyResults : Prop :=
  Mul64Op 0b01110#5 .mul32R .mul32I (fun x y => x * y) ∧
  Mul64Op 0b01111#5 .mul64hR .mul64hI (fun x y => (x.signExtend 64 * y.signExtend 64).extractLsb' 32 32) ∧
  Mul64Op 0b11110#5 .mul64huR .mul64huI (fun x y => (x.setWidth 64 * y.setWidth 64).extractLsb' 32 32) ∧
  Mul64Op 0b11111#5 .mulfracR .mulfracI (fun x y =>
    if x = 0x80000000#32 ∧ y = 0x80000000#32 then 0x7FFFFFFF#32
    else (x.signExtend 64 * y.signExtend 64 + 0x40000000#64).extractLsb' 31 32)

/-! ## Registers, immediates and frames -/

/-- R37, R41: R0 reads 0 and discards writes; a write of a general or branch register changes that register alone; of R63
it also sets slr_valid, the flag of 70_reset_and_hazards.md R722, which is the spec's own choice (decision D35; log 10,
log 20). -/
def Obligations.RegisterFileReadsAndWrites : Prop :=
  ∀ (s : State) (d r : GReg) (v : Word) (t b : BReg) (x : Bool),
    s.r 0#6 = 0#32 ∧ s.writeR 0#6 v = s ∧
    (s.writeR d v).r r = (if r = d ∧ d ≠ 0#6 then v else s.r r) ∧
    { s.writeR d v with gpr := s.gpr, slrValid := s.slrValid } = s ∧
    (s.writeR d v).slrValid = (if d = 63#6 then true else s.slrValid) ∧
    (s.writeB t x).b b = (if b = t then x else s.b b) ∧ { s.writeB t x with br := s.br } = s

/-- R300 to R302, R147: without an extension the immediate is sign-extended; with one it is the 32-bit constant
IMM:ISRC2; `immr` extends the operation on its right, `imml` the one on its left, which then runs with that extension in
force. An effective address is the immediate plus the base register modulo 2^32. -/
def Obligations.ImmediateExtensionsAndEffectiveAddresses : Prop :=
  (∀ (s : State) (i : Imm9), s.ext = none → (s.imm i).toInt = i.toInt) ∧
  (∀ (s : State) (x : Imm23) (i : Imm9), s.ext = some x → (s.imm i).toNat = x.toNat * 2 ^ 9 + i.toNat) ∧
  (∀ (s : State) (a : GReg) (i : Imm9), s.ea a i = s.imm i + s.r a) ∧
  (∀ (p : BitVec 1) (x : Imm23) (s : State),
    decodeSyllable (extWord p 0#1 x) = .ok (.imml x) ∧ exec (.imml x) s = .next { s with ext := some x } ∧
    decodeSyllable (extWord p 1#1 x) = .ok (.immr x) ∧ exec (.immr x) s = .next { s with ext := some x }) ∧
  (∀ (pc : Word) (x : Imm23) (j : Instr), isExtension j = false →
    operations pc [j] = [(j, none)] ∧ operations pc [j, .imml x] = [(j, some (.imml x))] ∧
    operations pc [.immr x, j] = [(j, some (.immr x))]) ∧
  (∀ (s : State) (x : Imm23) (j : Instr), runOp s (j, none) = exec j s ∧
    runOp s (j, some (.imml x)) = exec j { s with ext := some x } ∧
    runOp s (j, some (.immr x)) = exec j { s with ext := some x })

/-- Integer, compare, select, carry and multiply operations answer a next state in which only their destinations have
changed: no other register, no memory, no special register, no PC. -/
def Obligations.RegisterOperationsChangeOnlyTheirDestinations : Prop :=
  ∀ (i : Instr) (s : State), RegisterOnly i →
    ∃ t, exec i s = .next t ∧
      (∀ r : GReg, destG i ≠ some r → t.r r = s.r r) ∧ (∀ b : BReg, destB i ≠ some b → t.b b = s.b b) ∧
      (∀ a : Nat, memByte t.mem a = memByte s.mem a) ∧
      { t with gpr := s.gpr, br := s.br, slrValid := s.slrValid } = s

/-! ## Loads and stores (20_memory.md, 44_load_store_cache.md) -/

/-- R435, R437, R439, R441, R443, R583: the five normal loads complete with the contents of memory; an uncached word load
of the debug ROM completes with the ROM's word. -/
def Obligations.NormalLoadsReturnMemory : Prop :=
  LoadRow 0b00000#5 .ldw 4 false ∧ LoadRow 0b00010#5 .ldh 2 true ∧ LoadRow 0b00100#5 .ldhu 2 false ∧
  LoadRow 0b00110#5 .ldb 1 true ∧ LoadRow 0b01000#5 .ldbu 1 false ∧
  (∀ (d a : GReg) (i : Imm9) (s : State) (ea : Word) (off : Nat), ea = s.imm i + s.r a → ReadPasses s 4 ea →
    cachedAccess s ea = false → windowOf s.cfg (translate s ea) = .rom off →
    ∃ w, DebugRomWord s (translate s ea) off w ∧ exec (.ldw d a i) s = .next (s.writeR d w))

/-- R153, R160, R436 to R444, R583: the five dismissible loads complete with the contents of memory or with 0; an uncached
`ldw.d` of a peripheral register or of the debug ROM that the SCU admits does what `ldw` does, and completes. -/
def Obligations.DismissibleLoadsReturnMemoryOrZero : Prop :=
  DismissibleRow 0b00001#5 .ldwD 4 false ∧ DismissibleRow 0b00011#5 .ldhD 2 true ∧
  DismissibleRow 0b00101#5 .ldhuD 2 false ∧ DismissibleRow 0b00111#5 .ldbD 1 true ∧
  DismissibleRow 0b01001#5 .ldbuD 1 false ∧
  (∀ (d a : GReg) (i : Imm9) (s : State) (ea : Word), ea = s.imm i + s.r a → ReadPasses s 4 ea →
    cachedAccess s ea = false → windowOf s.cfg (translate s ea) ≠ .memory → scuHit s (translate s ea) = true →
    exec (.ldwD d a i) s = exec (.ldw d a i) s ∧ ∃ v, exec (.ldwD d a i) s = .next (s.writeR d v))

/-- R141, R155, R445 to R447, R583: the three stores complete and write exactly their bytes; a word store to the debug ROM
is ignored, through a cached page too, which is the model's choice (log 23). -/
def Obligations.StoresWriteTheirBytes : Prop :=
  StoreRow 0b01010#5 .stw 4 ∧ StoreRow 0b01011#5 .sth 2 ∧ StoreRow 0b01100#5 .stb 1 ∧
  (∀ (b a : GReg) (i : Imm9) (s : State) (ea : Word) (off : Nat), ea = s.imm i + s.r a → WritePasses s 4 ea →
    windowOf s.cfg (translate s ea) = .rom off → exec (.stw b a i) s = .next s)

/-- R148, R150, R151, R154, R160, R161: which exception a load or a store raises, in order; a dismissible load raises
MISALIGNED_TRAP and DTLB only on request. That trap entry clears slr_valid is the spec's own choice (decision D35; log 10,
log 20). -/
def Obligations.LoadsAndStoresRaiseInOrder : Prop :=
  TrapRow .ldw 4 false readViolation ∧ TrapRow .ldh 2 false readViolation ∧ TrapRow .ldhu 2 false readViolation ∧
  TrapRow .ldb 1 false readViolation ∧ TrapRow .ldbu 1 false readViolation ∧
  TrapRow .stw 4 true writeViolation ∧ TrapRow .sth 2 true writeViolation ∧ TrapRow .stb 1 true writeViolation ∧
  DismissibleTrapRow .ldwD 4 ∧ DismissibleTrapRow .ldhD 2 ∧ DismissibleTrapRow .ldhuD 2 ∧
  DismissibleTrapRow .ldbD 1 ∧ DismissibleTrapRow .ldbuD 1

/-- The frame of the ten loads: when one outside control register space answers a next state and has raised nothing, no
register but its destination has changed, and no byte of memory; a bus error may be pending (log 11), and the record of
older instruction words may be another (log 15). -/
def Obligations.LoadsChangeOnlyTheirDestination : Prop :=
  ∀ (i : Instr) (d a : GReg) (k : Imm9) (s t : State), IsLoad i d a k → ¬InCRegSpace (s.imm k + s.r a) →
    s.signal = .done → exec i s = .next t → t.signal = .done →
      (∀ r : GReg, r ≠ d → t.r r = s.r r) ∧ (∀ x : Nat, memByte t.mem x = memByte s.mem x) ∧
      { t with gpr := s.gpr, slrValid := s.slrValid, busErrorPending := s.busErrorPending, stale := s.stale } = s

/-- The frame of the three stores: when one outside control register space answers a next state and has raised nothing,
no byte of memory but the `n` at the translated effective address has changed, and of the rest only what a peripheral
register or a bus error changes. -/
def Obligations.StoresChangeOnlyTheirBytes : Prop :=
  ∀ (i : Instr) (n : Nat) (b a : GReg) (k : Imm9) (s t : State), IsStore i n b a k → ¬InCRegSpace (s.imm k + s.r a) →
    s.signal = .done → exec i s = .next t → t.signal = .done →
      (∀ x : Nat, (∀ j, j < n → x ≠ (translate s (s.imm k + s.r a) + BitVec.ofNat 32 j).toNat) →
        memByte t.mem x = memByte s.mem x) ∧
      { t with
        mem := s.mem, stale := s.stale, intc := s.intc, timers := s.timers, dsu := s.dsu,
        busErrorPending := s.busErrorPending } = s

/-- R145: bytes stored by one width are what a load of any width at the same bytes reads. After a store at an address
that may be read too, each load of `n` bytes at `ea + j`, inside the stored bytes, reads those bytes of the source. -/
def Obligations.LoadsAfterStoresSeeTheStoredBytes : Prop :=
  ∀ (st ld : Instr) (m n j : Nat) (signed : Bool) (b a d c : GReg) (i k : Imm9) (s t : State) (ea pa : Word),
    IsStore st m b a i → IsNormalLoad ld n signed d c k → ea = s.imm i + s.r a → pa = translate s ea →
    j + n ≤ m → WritePasses s m ea → WritableMemory s pa → Memory.wf s.mem = true → exec st s = .next t →
    t.imm k + t.r c = ea + BitVec.ofNat 32 j → ReadPasses t n (ea + BitVec.ofNat 32 j) →
    translate t (ea + BitVec.ofNat 32 j) = pa + BitVec.ofNat 32 j →
    ReadableMemory t (pa + BitVec.ofNat 32 j) →
    ∃ u, exec ld t = .next u ∧ SameButFetch (t.writeR d (loadedWord signed n
      ((s.r b).toNat / 256 ^ (if s.cfg.bigEndian then m - j - n else j) % 256 ^ n))) u

/-- R152, R184, R190, R192, R522 to R524, R583: a load that passes its checks and whose read the bus answers with an error,
and a store to a peripheral register that is no word, set the pending data-side bus error and commit; what the load writes,
and whether the bytes of a store whose bus write fails are written, is free (log 11), also where the failure is reported
after the store, but not after a `sync`, by which an uncached store has reached memory. The fetch of a syllable that the bus
answers with an error raises STBUS_IC_ERROR, which is taken before anything but a debug interrupt; the line it was to fill
is invalidated, so that a word of it that is in memory is fetched with its present value in that quadrant (log 15). That
trap entry clears slr_valid is the spec's own choice (decision D35; log 10, log 20). -/
def Obligations.BusErrorsAreReported : Prop :=
  (∀ (i : Instr) (n : Nat) (x : Bool) (d a : GReg) (k : Imm9) (s : State) (ea : Word),
    IsNormalLoad i n x d a k ∨ (IsDismissibleLoad i n d a k ∧ scuHit s (translate s ea) = true) →
    ea = s.imm k + s.r a → ReadPasses s n ea → ReadFails s n (cachedAccess s ea) (translate s ea) →
    ∃ v t, exec i s = .next t ∧ SameButFetch { s.writeR d v with busErrorPending := true } t) ∧
  (∀ (i : Instr) (n : Nat) (b a : GReg) (k : Imm9) (s : State) (ea pa : Word), IsStore i n b a k →
    ea = s.imm k + s.r a → pa = translate s ea → WritePasses s n ea →
    (windowOf s.cfg pa ≠ .memory → n ≠ 4 → exec i s = .next { s with busErrorPending := true }) ∧
    (windowOf s.cfg pa = .memory → busWriteError s.cfg pa = true →
      ∃ t, exec i s = .next t ∧ t.busErrorPending = true ∧
        { t with mem := s.mem, stale := s.stale, busErrorPending := s.busErrorPending } = s ∧
        ∀ y, (∀ j, j < n → y ≠ (pa + BitVec.ofNat 32 j).toNat) → memByte t.mem y = memByte s.mem y) ∧
    (∀ t u : State, WritableMemory s pa → Memory.wf s.mem = true → exec i s = .next t →
      ((applyEvent (.writeFailed 0) t).busErrorPending = true ∧
        ((∀ y, memByte (applyEvent (.writeFailed 0) t).mem y = memByte t.mem y) ∨
         (∀ y, memByte (applyEvent (.writeFailed 0) t).mem y = memByte s.mem y))) ∧
      (cachedAccess s ea = false → exec .sync t = .next u →
        applyEvent (.writeFailed 0) u = { u with busErrorPending := true }))) ∧
  (∀ (s : State) (va pa : Word), translateFetch s va = .ok pa →
    ((windowOf s.cfg pa = .memory ∧ busReadError s.cfg pa = true) ∨ (∃ off, windowOf s.cfg pa = .intc off) ∨
      (∃ off, windowOf s.cfg pa = .dsu off)) → fetchSyllable s va = .error ⟨.stbusIcError, 0#32, none⟩) ∧
  (∀ s : State, AtBoundary s → NoDebugDue s →
    (fetchBundle (noteAccesses (sampleTrigger s))).error = some ⟨.stbusIcError, 0#32, none⟩ →
    ∃ t, coreStep s = .next t ∧ Trapped .stbusIcError 0#32 (sampleTrigger s) t ∧
      ∀ va pa va' pa' : Word,
        va = syllableAddr s.pc (fetchBundle (noteAccesses (sampleTrigger s))).words.length →
        translateFetch (noteAccesses (sampleTrigger s)) va = .ok pa →
        (∀ x ∈ s.stale, x.addr.toNat / 64 = pa.toNat / 64 → x.stage = .inMemory) →
        pa'.toNat / 64 = pa.toNat / 64 → (va' >>> 13).setWidth 2 = (va >>> 13).setWidth 2 → staleValues t va' pa' = [])

/-! ## Control registers (10_state.md R55 to R71, 21_translation.md R236 to R248, 61_platform_devices.md) -/

/-- R157 to R159, R561, R563: a word access to control register space outside the map raises CREG_NO_MAPPING; one to a
register of the map in user mode raises CREG_ACCESS_VIOLATION unless it is DATA or READY of an SDI port with PRIV 1. That
every address from 0xFFFF0000 up is control register space (decision D5, R53, R147) and that trap entry clears slr_valid
(D35; log 10) are the spec's own choices (log 20). -/
def Obligations.ControlRegisterAccessFaults : Prop :=
  ∀ (x a : GReg) (i : Imm9) (s : State) (ea : Word) (off : Nat), ea = s.imm i + s.r a → ¬DataBreak s ea →
    ea.toNat = 0xFFFF0000 + off →
    (¬CRegOffset off →
      (∃ t, exec (.ldw x a i) s = .next t ∧ RaisesPlain .cregNoMapping ea s t) ∧
      (∃ t, exec (.stw x a i) s = .next t ∧ RaisesPlain .cregNoMapping ea s t)) ∧
    (CRegOffset off → s.psw.getLsbD 0 = true → ¬OpenToUser s off →
      (∃ t, exec (.ldw x a i) s = .next t ∧ RaisesPlain .cregAccessViolation ea s t) ∧
      (∃ t, exec (.stw x a i) s = .next t ∧ RaisesPlain .cregAccessViolation ea s t))

/-- What a supervisor's load of each control register gives; the loads named here change nothing but the destination. That
reserved registers read 0 (decision D10, R56) and that PERIPHERAL_BASE bits [19:0] read 0 (D11, R66) are the spec's own
choices (log 20). -/
def Obligations.ControlRegistersReadTheirState : Prop :=
  (CRegReads 0xFFF8 (fun s => s.psw) ∧ CRegReads 0xFFF0 (fun s => s.savedPsw.value) ∧
   CRegReads 0xFFE8 (fun s => s.savedPc.value) ∧ CRegReads 0xFFE0 (fun s => s.handlerPc) ∧
   CRegReads 0xFFD8 (fun s => BitVec.ofNat 32 (2 ^ s.excauseno.toNat)) ∧ CRegReads 0xFFD0 (fun s => s.exaddress) ∧
   CRegReads 0xFFC8 (fun s => s.cfg.dsuVersion ++ 5#8 ++ s.cfg.productId) ∧
   CRegReads 0xFFC0 (fun s => s.savedSavedPsw.value) ∧ CRegReads 0xFFB8 (fun s => s.savedSavedPc.value) ∧
   CRegReads 0xFFB0 (fun s => s.cfg.peripheralBasePins ++ 0#20) ∧ CRegReads 0xFF88 (fun s => s.excauseno.setWidth 32)) ∧
  (∀ k : Fin 4, CRegReads (0xFFA8 - 8 * k.val) (fun s => s.scratch[k])) ∧
  (CRegReads 0xFF80 (fun s => s.tlb.index.setWidth 32) ∧ EntryReads 0xFF78 entryNumber ∧
   EntryReads 0xFF70 (fun e => e.vaddr.toNat) ∧ EntryReads 0xFF68 (fun e => e.paddr.toNat) ∧
   CRegReads 0xFF60 (fun _ => 0#32) ∧ CRegReads 0xFF50 (fun _ => 0#32) ∧
   CRegReads 0xFF40 (fun s => s.tlb.asid.setWidth 32) ∧
   CRegReads 0xFF58 (fun s => BitVec.ofNat 32 (s.tlb.excause.index.toNat + s.tlb.excause.cause.toNat * 2 ^ 16 +
     bitNumber s.tlb.excause.spec * 2 ^ 18 + bitNumber s.tlb.excause.write * 2 ^ 19 +
     bitNumber s.tlb.excause.inUtlb * 2 ^ 20))) ∧
  (∀ k : Fin 8, CRegReads (0xFF00 + 8 * k.val) (fun _ => 0#32) ∧ CRegReads (0xFE08 + 8 * k.val) (fun _ => 0#32)) ∧
  (CRegReads 0xFE80 (fun s => s.dbreak.lower) ∧ CRegReads 0xFE78 (fun s => s.dbreak.upper) ∧
   CRegReads 0xFE70 (fun s => s.dbreak.control.setWidth 32) ∧ CRegReads 0xFE00 (fun s => s.partition.setWidth 32) ∧
   CRegReads 0xFDD0 (fun s => s.ibreak.lower) ∧ CRegReads 0xFDC8 (fun s => s.ibreak.upper) ∧
   CRegReads 0xFDC0 (fun s => s.ibreak.control.setWidth 32)) ∧
  (CRegReads 0xF800 (fun s => BitVec.ofNat 32 (bitNumber s.pm.enb + bitNumber s.pm.idle * 2 ^ 2 +
     s.pm.events[0].toNat * 2 ^ 12 + s.pm.events[1].toNat * 2 ^ 17 + s.pm.events[2].toNat * 2 ^ 22 +
     s.pm.events[3].toNat * 2 ^ 27)) ∧
   (∀ k : Fin 4, CRegReads (0xF808 + 8 * k.val) (fun s => s.pm.cnt[k])) ∧ CRegReads 0xF828 (fun s => s.pm.pclk)) ∧
  (∀ k : Fin 4,
   CRegReads (0xE010 + 0x400 * k.val) (fun s => BitVec.ofNat 32 (s.sdi[k].priv.toNat + bitNumber s.sdi[k].resetIn * 2 ^ 2 +
     bitNumber s.sdi[k].resetOut * 2 ^ 3 + bitNumber s.cfg.sdi[k].isInput * 2 ^ 4 +
     bitNumber s.cfg.sdi[k].isMaster * 2 ^ 6 + bitNumber s.sdi[k].timeoutDisable * 2 ^ 7)) ∧
   CRegReads (0xE018 + 0x400 * k.val) (fun s => s.sdi[k].count) ∧
   CRegReads (0xE020 + 0x400 * k.val) (fun s => s.sdi[k].timeout) ∧
   CRegReads (0xD000 + 16 * k.val) (fun s => s.scu[k].base.setWidth 32) ∧
   CRegReads (0xD008 + 16 * k.val) (fun s => s.scu[k].limit.setWidth 32))

/-- What a supervisor's store to each control register changes; read-only registers and fields ignore it, and a store to
PSW in particular changes nothing (R46). That a store takes effect at the commit of its bundle is the spec's own choice
(decision D19; log 18), as is that reserved registers ignore it (D10; log 20); that RESETOUTPUT going from 0 to 1 empties a
master's channel then is deduced (log 12), and that the older contents of a saved register stay usable for a too early
`rfi`, for five more bundles with the store's own, is log 9. -/
def Obligations.ControlRegisterStoresFollowTheirFields : Prop :=
  (CRegTakes 0xFFF8 (fun _ s => s) ∧ CRegTakes 0xFFD8 (fun _ s => s) ∧ CRegTakes 0xFFC8 (fun _ s => s) ∧
   CRegTakes 0xFFB0 (fun _ s => s) ∧ CRegTakes 0xFF60 (fun _ s => s) ∧
   (∀ k : Fin 8, CRegTakes (0xFF00 + 8 * k.val) (fun _ s => s) ∧ CRegTakes (0xFE08 + 8 * k.val) (fun _ s => s)) ∧
   (∀ k : Fin 4, CRegTakes (0xE008 + 0x400 * k.val) (fun _ s => s))) ∧
  (CRegTakes 0xFFF0 (fun v s => { s with savedPsw := ⟨v, (s.savedPsw.value, 5) :: s.savedPsw.olds⟩ }) ∧
   CRegTakes 0xFFE8 (fun v s => { s with savedPc := ⟨v, (s.savedPc.value, 5) :: s.savedPc.olds⟩ }) ∧
   CRegTakes 0xFFC0 (fun v s => { s with savedSavedPsw := ⟨v, (s.savedSavedPsw.value, 5) :: s.savedSavedPsw.olds⟩ }) ∧
   CRegTakes 0xFFB8 (fun v s => { s with savedSavedPc := ⟨v, (s.savedSavedPc.value, 5) :: s.savedSavedPc.olds⟩ })) ∧
  (CRegTakes 0xFFE0 (fun v s => { s with handlerPc := v }) ∧ CRegTakes 0xFFD0 (fun v s => { s with exaddress := v }) ∧
   CRegTakes 0xFF88 (fun v s => { s with excauseno := v.setWidth 5 }) ∧
   (∀ k : Fin 4, CRegTakes (0xFFA8 - 8 * k.val) (fun v s => { s with scratch := s.scratch.set k v })) ∧
   CRegTakes 0xFE00 (fun v s => { s with partition := v.setWidth 2 })) ∧
  (CRegTakes 0xFE80 (fun v s => { s with dbreak := { s.dbreak with lower := v } }) ∧
   CRegTakes 0xFE78 (fun v s => { s with dbreak := { s.dbreak with upper := v } }) ∧
   CRegTakes 0xFE70 (fun v s => { s with dbreak := { s.dbreak with control := v.setWidth 4 } }) ∧
   CRegTakes 0xFDD0 (fun v s => { s with ibreak := { s.ibreak with lower := v } }) ∧
   CRegTakes 0xFDC8 (fun v s => { s with ibreak := { s.ibreak with upper := v } }) ∧
   CRegTakes 0xFDC0 (fun v s => { s with ibreak := { s.ibreak with control := v.setWidth 4 } })) ∧
  (CRegTakes 0xF800 (fun v s => { s with pm :=
     { enb := v.getLsbD 0, idle := if v.getLsbD 2 then false else s.pm.idle
       events := #v[(v >>> 12).setWidth 5, (v >>> 17).setWidth 5, (v >>> 22).setWidth 5, (v >>> 27).setWidth 5]
       cnt := if v.getLsbD 1 then #v[0#32, 0#32, 0#32, 0#32] else s.pm.cnt
       pclk := if v.getLsbD 1 then 0#32 else s.pm.pclk } }) ∧
   (∀ k : Fin 4, CRegTakes (0xF808 + 8 * k.val) (fun v s => { s with pm := { s.pm with cnt := s.pm.cnt.set k v } })) ∧
   CRegTakes 0xF828 (fun v s => { s with pm := { s.pm with pclk := v } })) ∧
  (∀ k : Fin 4,
   CRegTakes (0xE010 + 0x400 * k.val) (fun v s => { s with sdi := s.sdi.set k { s.sdi[k] with
     priv := v.setWidth 2, resetOut := v.getLsbD 3, timeoutDisable := v.getLsbD 7
     chan := if s.cfg.sdi[k].isMaster ∧ v.getLsbD 3 ∧ s.sdi[k].resetOut = false then [] else s.sdi[k].chan } }) ∧
   CRegTakes (0xE018 + 0x400 * k.val) (fun v s => { s with sdi := s.sdi.set k { s.sdi[k] with count := v } }) ∧
   CRegTakes (0xE020 + 0x400 * k.val) (fun v s => { s with sdi := s.sdi.set k { s.sdi[k] with timeout := v } }) ∧
   CRegTakes (0xD000 + 16 * k.val) (fun v s => { s with scu := s.scu.set k { s.scu[k] with base := v.setWidth 19 } }) ∧
   CRegTakes (0xD008 + 16 * k.val) (fun v s => { s with scu := s.scu.set k { s.scu[k] with limit := v.setWidth 19 } }))

/-- R236 to R248: the registers of the translation unit. A TLB_INDEX above 63 is not written; the entry it selects is
written field by field; a load of TLB_REPLACE returns LIMIT and LFSR and clocks the LFSR; TLB_CONTROL and TLB_ASID change
no UTLB entry. That a TLB_INDEX above 63 is ignored (decision D14; log 20) and that a store takes effect at the commit of
its bundle (D19; log 18) are the spec's own choices. -/
def Obligations.TranslationRegistersFollowTheirFields : Prop :=
  CRegTakes 0xFF80 (fun v s => if v.toNat % 256 ≤ 63 then { s with tlb := { s.tlb with index := v.setWidth 8 } } else s) ∧
  EntryTakes 0xFF78 (fun v e => { e with
    asid := v.setWidth 8, shared := v.getLsbD 8, protSuper := (v >>> 9).setWidth 3, protUser := (v >>> 12).setWidth 3
    dirty := v.getLsbD 15, policy := (v >>> 16).setWidth 4, size := (v >>> 20).setWidth 3
    partition := (v >>> 23).setWidth 2 }) ∧
  EntryTakes 0xFF70 (fun v e => { e with vaddr := v.setWidth 19 }) ∧
  EntryTakes 0xFF68 (fun v e => { e with paddr := v.setWidth 19 }) ∧
  CRegTakes 0xFF58 (fun v s => { s with tlb := { s.tlb with excause :=
    ⟨v.setWidth 8, (v >>> 16).setWidth 2, v.getLsbD 18, v.getLsbD 19, v.getLsbD 20⟩ } }) ∧
  CRegTakes 0xFF48 (fun v s => { s with tlb := { s.tlb with lfsr := v.setWidth 16, limit := (v >>> 16).setWidth 8 } }) ∧
  CRegWrites 0xFF50 (fun _ s t => { t with tlb := { t.tlb with history := s.tlb.history } } = s) ∧
  CRegWrites 0xFF40 (fun v s t => t.tlb.asid = v.setWidth 8 ∧
    { t with tlb := { t.tlb with asid := s.tlb.asid, history := s.tlb.history } } = s) ∧
  (∀ (d a : GReg) (i : Imm9) (s : State), s.psw.getLsbD 0 = false → ¬DataBreak s (s.imm i + s.r a) →
    (s.imm i + s.r a).toNat = 0xFFFFFF48 →
    exec (.ldw d a i) s = .next ({ s with tlb := { s.tlb with lfsr := lfsrClocked s.tlb.lfsr } }.writeR d
      (s.tlb.limit.setWidth 32 <<< 16 ||| s.tlb.lfsr.setWidth 32)))

/-! ## SDI ports, interrupt controller, timers, DSU (61_platform_devices.md) -/

/-- R622, R623: a load of DATA takes the head item of an input port's channel, a store appends to an output port's while
there is room, each reloading the time-out; a load of an output port's DATA gives 0 and a store to an input port's is
ignored. A load of READY gives at most the number of accesses that would not wait; which is free (log 13). A store to READY
is ignored, in user mode with PRIV 1 too (R159, R630), which is the spec's own choice (decision D12; log 20). -/
def Obligations.SdiDataMovesItems : Prop :=
  (∀ (i : Fin 4) (d a : GReg) (k : Imm9) (s : State), SdiAccess 0 s i (s.imm k + s.r a) →
    (s.cfg.sdi[i].isInput = false → exec (.ldw d a k) s = .next (s.writeR d 0#32)) ∧
    (∀ v rest, s.cfg.sdi[i].isInput = true → s.sdi[i].chan = v :: rest →
      exec (.ldw d a k) s = .next ((sdiAfter s i rest).writeR d v))) ∧
  (∀ (i : Fin 4) (b a : GReg) (k : Imm9) (s : State), SdiAccess 0 s i (s.imm k + s.r a) →
    (s.cfg.sdi[i].isInput = true → exec (.stw b a k) s = .next s) ∧
    (s.cfg.sdi[i].isInput = false → s.sdi[i].chan.length < s.cfg.sdi[i].depth →
      exec (.stw b a k) s = .next (sdiAfter s i (s.sdi[i].chan ++ [s.r b])))) ∧
  (∀ (i : Fin 4) (x a : GReg) (k : Imm9) (s : State), SdiAccess 8 s i (s.imm k + s.r a) →
    (∃ n, n ≤ sdiAvailable s i ∧ exec (.ldw x a k) s = .next (s.writeR x (BitVec.ofNat 32 n))) ∧
    exec (.stw x a k) s = .next { s with cregStored := some (.sdiReady i) })

/-- R627, R628: an access of DATA that cannot proceed waits, counting the time-out down while it is enabled, and raises
SDI_TIMEOUT with the address of DATA when it is 0. In every later turn the held bundle is evaluated again: if nothing
keeps it waiting it commits, else a debug interrupt, a pending bus error or an enabled interrupt ends the wait, in that
order, and else it times out or waits on. That a debug interrupt and a bus error end the wait too, the order of the
three, and that the time-out holds still while disabled (decision D30), that EXADDRESS of SDI_TIMEOUT is the address of
DATA (D24, 60_exceptions.md R516) and that trap entry and debug entry clear slr_valid (D35; log 10) are the spec's own
choices (log 20). That one turn of the loop is one step, with the PC left at the bundle, is the model's (log 24). -/
def Obligations.SdiAccessesWaitOrTimeOut : Prop :=
  (∀ (i : Fin 4) (x a : GReg) (k : Imm9) (s : State), SdiAccess 0 s i (s.imm k + s.r a) →
    (s.cfg.sdi[i].isInput = true → s.sdi[i].chan = [] → sdiBlocked s i (exec (.ldw x a k) s)) ∧
    (s.cfg.sdi[i].isInput = false → s.cfg.sdi[i].depth ≤ s.sdi[i].chan.length → sdiBlocked s i (exec (.stw x a k) s))) ∧
  (∀ (s n : State) (ws : List Word) (b : BundleEnd), StallTurn s ws b → n = noteAccesses (sampleTrigger s) →
    ((∃ is, b.ending = .committed is) → coreStep s = .next (finish n b)) ∧
    ((¬∃ is, b.ending = .committed is) →
      (DebugRequested s → s.psw.getLsbD 12 = false → ∃ t, coreStep s = .next t ∧ DebugEntered s t) ∧
      (NoDebugDue s →
        (s.busErrorPending = true → ∃ t, coreStep s = .next t ∧ Trapped .stbusDcError 0#32 (sampleTrigger s) t) ∧
        (s.busErrorPending = false → s.irq = true → s.psw.getLsbD 1 = true →
          ∃ t, coreStep s = .next t ∧ Trapped .externInt 0#32 (sampleTrigger s) t) ∧
        (s.busErrorPending = false → (s.irq = false ∨ s.psw.getLsbD 1 = false) → coreStep s = .next (finish n b)))) ∧
    (∀ t, coreStep s = .next t → t.waiting = none ∨ (t.waiting = some ws ∧ t.pc = s.pc))) ∧
  (∀ (s : State) (w : Word) (b : BundleEnd) (i : Fin 4) (x a : GReg) (k : Imm9), StallTurn s [w] b →
    w.getLsbD 31 = true → SdiAccess 0 s i (s.imm k + s.r a) →
    (∀ v rest, decodeSyllable w = .ok (.ldw x a k) → s.cfg.sdi[i].isInput = true → s.sdi[i].chan = v :: rest →
      ∃ t, coreStep s = .next t ∧ t.waiting = none ∧ t.pc = s.pc + 4#32 ∧ t.sdi = (sdiAfter s i rest).sdi ∧
        t.gpr = (s.writeR x v).gpr) ∧
    (decodeSyllable w = .ok (.stw x a k) → s.cfg.sdi[i].isInput = false →
      s.sdi[i].chan.length < s.cfg.sdi[i].depth →
      ∃ t, coreStep s = .next t ∧ t.waiting = none ∧ t.pc = s.pc + 4#32 ∧
        t.sdi = (sdiAfter s i (s.sdi[i].chan ++ [s.r x])).sdi))

/-- R582, R590 to R596, R601, R603, R605: the registers of the interrupt controller and the timers, and the request
they make; the reserved registers, and every other offset of the block, read 0 and ignore stores (D28). That
INTPENDING is not sticky (decision D27), that the set and clear registers read 0 and stores to INTPENDING are ignored
(D28), that IRQ_MASTER_IN is or-ed in after the mask (D25) and that TIMEDIVIDE reads DIVIDE and a store to it does not
restart the period (D29) are the spec's own choices (log 20), as is that a store takes effect at the commit of its
bundle (D19, R584; log 18). That a store through a cached page acts like an uncached one is the model's (log 23). -/
def Obligations.InterruptControllerAndTimerRegisters : Prop :=
  (IntcReads 0x00 (fun s => (pendingWord s).setWidth 32) ∧ IntcReads 0x08 (fun s => (pendingWord s >>> 32).setWidth 32) ∧
   IntcReads 0x10 (fun s => s.intc.mask.setWidth 32) ∧ IntcReads 0x18 (fun s => (s.intc.mask >>> 32).setWidth 32) ∧
   IntcReads 0x20 (fun s => s.intc.test.setWidth 32) ∧ IntcReads 0x28 (fun s => (s.intc.test >>> 32).setWidth 32) ∧
   (∀ k : Fin 3, IntcReads (0x200 + 24 * k.val) (fun s => s.timers.timer[k].const) ∧
     IntcReads (0x208 + 24 * k.val) (fun s => s.timers.timer[k].count) ∧
     IntcReads (0x210 + 24 * k.val) (fun s => BitVec.ofNat 32 (bitNumber s.timers.timer[k].enable +
       2 * bitNumber s.timers.timer[k].intEnable + 4 * bitNumber s.timers.timer[k].status))) ∧
   IntcReads 0x248 (fun s => s.timers.divide.setWidth 32) ∧
   (∀ off ∈ [0x30, 0x38, 0x40, 0x48, 0x108, 0x110, 0x118, 0x120], IntcReads off (fun _ => 0#32))) ∧
  (IntcTakes 0x00 (fun _ s => s) ∧ IntcTakes 0x08 (fun _ s => s) ∧
   IntcTakes 0x10 (fun v => withMask (fun m => (m >>> 32).setWidth 32 ++ v)) ∧
   IntcTakes 0x18 (fun v => withMask (fun m => v ++ m.setWidth 32)) ∧
   IntcTakes 0x20 (fun v => withTest (fun m => (m >>> 32).setWidth 32 ++ v)) ∧
   IntcTakes 0x28 (fun v => withTest (fun m => v ++ m.setWidth 32)) ∧
   IntcTakes 0x30 (fun v => withTest (fun m => m &&& ~~~(v.setWidth 64))) ∧
   IntcTakes 0x38 (fun v => withTest (fun m => m &&& ~~~(v.setWidth 64 <<< 32))) ∧
   IntcTakes 0x40 (fun v => withTest (fun m => m ||| v.setWidth 64)) ∧
   IntcTakes 0x48 (fun v => withTest (fun m => m ||| v.setWidth 64 <<< 32)) ∧
   IntcTakes 0x108 (fun v => withMask (fun m => m &&& ~~~(v.setWidth 64))) ∧
   IntcTakes 0x110 (fun v => withMask (fun m => m &&& ~~~(v.setWidth 64 <<< 32))) ∧
   IntcTakes 0x118 (fun v => withMask (fun m => m ||| v.setWidth 64)) ∧
   IntcTakes 0x120 (fun v => withMask (fun m => m ||| v.setWidth 64 <<< 32)) ∧
   (∀ k : Fin 3, IntcTakes (0x200 + 24 * k.val) (fun v => withTimer k (fun t => { t with const := v })) ∧
     IntcTakes (0x208 + 24 * k.val) (fun v => withTimer k (fun t => { t with count := v })) ∧
     IntcTakes (0x210 + 24 * k.val) (fun v => withTimer k (fun t => { t with
       enable := v.getLsbD 0, intEnable := v.getLsbD 1, status := if v.getLsbD 2 then false else t.status }))) ∧
   IntcTakes 0x248 (fun v s => { s with timers := { s.timers with divide := v.setWidth 16 } })) ∧
  (∀ off, off < 0x250 → off ∉ intcOffsets → IntcReads off (fun _ => 0#32) ∧ IntcTakes off (fun _ s => s)) ∧
  (∀ s : State, s.irq = true ↔ pendingWord s &&& s.intc.mask ≠ 0#64 ∨ s.intc.irqMaster = true)

/-- R602, R604: an enabled timer whose count is `n` sets STATUS and reloads its count exactly at its (n+1)th tick; the
first tick comes after the prescaler's present value plus one bus clock cycles, the next ones every DIVIDE + 1. A disabled
timer keeps all it holds. The one shared prescaler, reloaded with DIVIDE, is the spec's own choice (decision D29; log 20). -/
def Obligations.TimersExpireAfterTheirCount : Prop :=
  (∀ (t : Timers) (i : Fin 3) (n : Nat), t.timer[i].enable = true → t.timer[i].count.toNat = n →
    (∀ m, m < t.presc.toNat + 1 + n * (t.divide.toNat + 1) →
      (Timers.busClock^[m] t).timer[i].status = t.timer[i].status) ∧
    (Timers.busClock^[t.presc.toNat + 1 + n * (t.divide.toNat + 1)] t).timer[i] =
      { t.timer[i] with count := t.timer[i].const, status := true }) ∧
  (∀ (t : Timers) (i : Fin 3) (m : Nat), t.timer[i].enable = false →
    (Timers.busClock^[m] t).timer[i] = t.timer[i])

/-- R641 to R645: the shared register bank as the core sees it: DSR0 is the version and read only, DSR1 has its writable
fields, DSR2 keeps 8 bits and latches them for sending in the TAPLINK variant, DSR3 to DSR31 are storage; stores act only
in a mode that DSR1 lets write. That a disabled write is ignored (decision D31; log 20) and that a store takes effect at the
commit of its bundle (D19, R584; log 18) are the spec's own choices. That bit 4 may be stored at any time in the JTAG
variant (log 28) and that a store through a cached page acts like an uncached one (log 23) are the model's. -/
def Obligations.DebugSupportRegisters : Prop :=
  DsrReads 0 (fun s => s.cfg.dsuVersion ++ 5#8 ++ s.cfg.productId) ∧
  DsrReads 1 (fun s => BitVec.ofNat 32 (bitNumber (s.psw.getLsbD 12) + 2 * bitNumber s.dsu.supervisorWrite +
    4 * bitNumber s.dsu.userWrite + 8 * bitNumber s.cfg.bigEndian + 16 * bitNumber s.dsu.eventAckPending +
    32 * bitNumber s.dsu.outputPending + 64 * bitNumber s.dsu.triggerIn + 128 * bitNumber s.dsu.triggerOut +
    256 * bitNumber s.dsu.triggerEnable + 2 ^ 16 * s.dsu.swFlags.toNat)) ∧
  (∀ k : Fin 30, DsrReads (k.val + 2) (fun s => s.dsu.regs[k])) ∧
  DsrTakes 0 (fun _ s => s) ∧
  DsrTakes 1 (fun v s => { s with dsu := { s.dsu with
    supervisorWrite := v.getLsbD 1, userWrite := v.getLsbD 2, triggerOut := v.getLsbD 7, triggerEnable := v.getLsbD 8
    eventAckPending := if s.cfg.debugVariant = .jtag then v.getLsbD 4 else s.dsu.eventAckPending
    swFlags := (v >>> 16).setWidth 16 } }) ∧
  DsrTakes 2 (fun v s =>
    if s.cfg.debugVariant = .taplink then
      { s with dsu := { s.dsu with
        regs := s.dsu.regs.set 0 (v &&& 0xFF#32), outputPending := true
        sending := if s.dsu.outputPending then s.dsu.sending else v &&& 0xFF#32 } }
    else
      { s with dsu := { s.dsu with
        regs := s.dsu.regs.set 0 v
        outputPending := if s.dsu.eventAckPending then s.dsu.outputPending else true
        sending := if s.dsu.eventAckPending then s.dsu.sending else v } }) ∧
  (∀ k : Fin 29, DsrTakes (k.val + 3) (fun v s => { s with dsu := { s.dsu with
    regs := s.dsu.regs.setIfInBounds (k.val + 1) v } }))

/-- R670 to R675: with ENB set each counter grows by how often its event happened in the bundle, for the events the spec
counts exactly; a trap or a debug interrupt is event 14, an external interrupt event 15; a counter the bundle stores to
keeps the stored value, and a store to PM_CR suspends them all; with ENB clear none changes. PM_PCLK counts core clock
cycles while ENB is set. Which events are counted exactly and how events 14 and 15 divide the exceptions is the spec's own
choice (decision D33; log 20); what a store to PM_CR or to a counter does to the count of its own bundle is deduced
(log 26). -/
def Obligations.PerformanceCountersCountTheirEvents : Prop :=
  (∀ (s t : State) (is : List Instr) (k : Fin 4) (n : Nat), s.pm.enb = true → is ≠ [] → t.cregStored ≠ some .pmCr →
    t.cregStored ≠ some (.pmCnt k) → committedEvents s is s.pm.events[k].toNat = some n →
    (finish s ⟨.committed is, t⟩).pm.cnt[k] = t.pm.cnt[k] + BitVec.ofNat 32 n) ∧
  (∀ (s t : State) (x : Exc) (k : Fin 4) (n : Nat), s.pm.enb = true → t.cregStored = none →
    trapEvents x s.pm.events[k].toNat = some n →
    (finish s ⟨.trapped x, t⟩).pm.cnt[k] = t.pm.cnt[k] + BitVec.ofNat 32 n) ∧
  (∀ (s t : State) (k : Fin 4), s.pm.enb = true → t.cregStored = none →
    (s.pm.events[k] = 14#5 → (finish s ⟨.debug, t⟩).pm.cnt[k] = t.pm.cnt[k] + 1#32) ∧
    (s.pm.events[k].toNat ∈ [10, 11, 12, 13, 15, 18, 21, 28, 29, 30, 31] →
      (finish s ⟨.debug, t⟩).pm.cnt[k] = t.pm.cnt[k])) ∧
  (∀ (s : State) (e : BundleEnd) (k : Fin 4),
    s.pm.enb = false ∨ e.state.cregStored = some .pmCr ∨ e.state.cregStored = some (.pmCnt k) →
    (finish s e).pm.cnt[k] = e.state.pm.cnt[k]) ∧
  (∀ s : State, (applyEvent .coreClock s).pm.pclk = s.pm.pclk + (if s.pm.enb then 1#32 else 0#32) ∧
    { applyEvent .coreClock s with pm := { (applyEvent .coreClock s).pm with pclk := s.pm.pclk } } = s)

/-- R581, R596, R598, R620, R631, R643 to R647, R656, R657, R691: what the inputs of the environment do: interrupt lines and
pins take their values; items enter a running input channel of an awake core while there is room, and leave an output
channel; a slave's channel empties when RESETINPUT goes from 0 to 1 (deduced; log 12); a host poke writes its register
whatever DSR1 says; a host event with reason 1 on channel 0 requests a debug interrupt; EVENT_ACK clears
HOST_EVENT_ACK_PENDING in the JTAG variant; a TAPLINK poke of more than 32 registers, PEEKED and peeks change nothing
(log 22); the link's sending clears OUTPUT_PENDING; another initiator of the bus writes the registers of the interrupt
controller, the timers and, where the core's mode may write them, the DSU (log 25); a bus clock cycle steps the timers
(R604); the failure of an earlier write is pending, and the bytes of the store freely hold its data or those they held
before, later stores apart, if it may still be on its way (R190, 93 U6; log 11). All of it in idle mode too. After the core's part of each step the inputs listed for it act in their order, or one
bus clock cycle where none are listed, and then one core clock cycle: the model's choice of what R581 leaves to the
environment (log 7). -/
def Obligations.EnvironmentInputsActOnTheirDevices : Prop :=
  ∀ s : State,
    (∀ v, applyEvent (.lines v) s = { s with intc := { s.intc with lines := v } }) ∧
    (∀ v, applyEvent (.irqMaster v) s = { s with intc := { s.intc with irqMaster := v } }) ∧
    (∀ v, applyEvent (.triggerIn v) s = { s with dsu := { s.dsu with triggerIn := v } }) ∧
    (∀ k, (∀ x, s.stale[k]? = some x → x.stage = .inMemory) →
      applyEvent (.writeFailed k) s = { s with busErrorPending := true }) ∧
    (∀ k x, s.stale[k]? = some x → x.stage ≠ .inMemory → Memory.wf s.mem = true →
      applyEvent (.writeFailed k) s = { s with busErrorPending := true } ∨
      WriteLost k x s (applyEvent (.writeFailed k) s)) ∧
    (∀ (i : Fin 4) (v : Word), s.cfg.sdi[i].isInput = true → s.coreIdle = false → s.sdi[i].resetIn = false →
      s.sdi[i].resetOut = false → s.sdi[i].chan.length < s.cfg.sdi[i].depth →
      applyEvent (.sdiPush i v) s =
        { s with sdi := s.sdi.set i { s.sdi[i] with chan := s.sdi[i].chan ++ [v] } }) ∧
    (∀ (i : Fin 4) (v : Word) (rest : List Word), s.cfg.sdi[i].isInput = false → s.sdi[i].chan = v :: rest →
      applyEvent (.sdiPop i) s = { s with sdi := s.sdi.set i { s.sdi[i] with chan := rest } }) ∧
    (∀ (i : Fin 4) (v : Bool), applyEvent (.sdiResetIn i v) s =
      { s with sdi := s.sdi.set i { s.sdi[i] with
          resetIn := v
          chan := if s.cfg.sdi[i].isMaster = false ∧ v = true ∧ s.sdi[i].resetIn = false then []
            else s.sdi[i].chan } }) ∧
    (∀ (r : Fin 32) (v : Word), 3 ≤ r.val → applyEvent (.host (.poke r [v])) s =
      { s with dsu := { s.dsu with regs := s.dsu.regs.setIfInBounds (r.val - 2) v } }) ∧
    (∀ (r : Fin 32) (vs : List Word), s.cfg.debugVariant = .taplink → 32 < vs.length →
      applyEvent (.host (.poke r vs)) s = s) ∧
    (∀ (r : Fin 32) (n : Nat), applyEvent (.host (.peek r n)) s = s) ∧ applyEvent (.host .peeked) s = s ∧
    applyEvent (.host (.event 1#3 0#3)) s = { s with dsu := { s.dsu with irqPending := true } } ∧
    (∀ reason, reason ≠ 1#3 → applyEvent (.host (.event reason 0#3)) s = s) ∧
    applyEvent (.host .eventAck) s = (if s.cfg.debugVariant = .jtag then
      { s with dsu := { s.dsu with eventAckPending := false } } else s) ∧
    (s.dsu.outputPending = true → (applyEvent .linkSent s).dsu.outputPending = false ∧
      (applyEvent .linkSent s).dsu.eventAckPending =
        (if s.cfg.debugVariant = .jtag then true else s.dsu.eventAckPending) ∧
      { applyEvent .linkSent s with dsu := { (applyEvent .linkSent s).dsu with
          outputPending := true, eventAckPending := s.dsu.eventAckPending } } = s) ∧
    (∀ (pa v : Word) (off : Nat), windowOf s.cfg pa = .intc off →
      applyEvent (.busWrite pa v) s = intcWrite s off v) ∧
    (∀ (pa v : Word) (n : Fin 32), windowOf s.cfg pa = .dsu (8 * n.val) →
      applyEvent (.busWrite pa v) s =
        (if (s.psw.getLsbD 0 = false ∧ s.dsu.supervisorWrite = true) ∨ (s.psw.getLsbD 0 = true ∧ s.dsu.userWrite = true)
         then dsrWrite s n v else s)) ∧
    (∀ pa : Word, applyEvent (.busRead pa) s = s) ∧
    applyEvent .busClock s = { s with timers := s.timers.busClock } ∧
    (s.env = [] → envTick s = applyEvent .coreClock (applyEvent .busClock s)) ∧
    (∀ es rest, s.env = es :: rest →
      envTick s = applyEvent .coreClock (es.foldl (fun t e => applyEvent e t) { s with env := rest })) ∧
    (∀ t, coreStep s = .next t → step s = .next (envTick t))

/-! ## Translation, protection, the SCU and breakpoints -/

/-- R222, R249 to R253, R255: what the translation predicates say, for data and for instruction fetch, in terms of the
UTLB entries that match the address. That a reserved SIZE matches nothing (decision D15), that a reserved POLICY is uncached
(93_implementation_defined.md U11) and that a fetch from 0xFFFF0000 up is translated like any other (D16) are the spec's own
choices (log 20). -/
def Obligations.TranslationFollowsTheMatchingEntries : Prop :=
  (∀ (s : State) (a : Word), s.psw.getLsbD 2 = false →
    noTranslation s a = false ∧ multiMapping s a = false ∧ readViolation s a = false ∧ writeViolation s a = false ∧
    cachedAccess s a = false ∧ translate s a = a ∧ translateFetch s a = .ok a) ∧
  (∀ (s : State) (a : Word), CoherentTlb s →
    (noTranslation s a = true ↔ ∀ i, ¬Matches s.tlb a i) ∧ (multiMapping s a = true ↔ SeveralMatch s.tlb a) ∧
    ((∀ i, ¬OnlyMatch s.tlb a i) → readViolation s a = false ∧ writeViolation s a = false) ∧
    (∀ i k, OnlyMatch s.tlb a i → PageBits s.tlb.entries[i] k →
      translate s a = pageAddress s.tlb.entries[i] k a ∧
      (readViolation s a = true ↔ ¬Permits s s.tlb.entries[i] 1) ∧
      (writeViolation s a = true ↔ ¬Permits s s.tlb.entries[i] 2 ∨ s.tlb.entries[i].dirty = false) ∧
      (cachedAccess s a = true ↔ s.tlb.entries[i].policy = 1#4) ∧
      (Permits s s.tlb.entries[i] 0 → translateFetch s a = .ok (pageAddress s.tlb.entries[i] k a))))

/-- R248, R254, R255, R257, R258: TLB_EXCAUSE of a refused access: INDEX, CAUSE, SPEC, WRITE and IN_UTLB, for loads,
stores, dismissible loads, `prgadd` and instruction fetch. That INDEX is 0 after NO_MAPPING, and INDEX and IN_UTLB
after MULTI_MAPPING, is the spec's own choice (decision D17, 93_implementation_defined.md U13; log 20). -/
def Obligations.TlbExceptionsRecordTheirCause : Prop :=
  (∀ (ld : Instr) (n : Nat) (x : Bool) (d a : GReg) (k : Imm9) (s : State) (ea : Word), IsNormalLoad ld n x d a k →
    ea = s.imm k + s.r a → ReachesTlb s n ea → CoherentTlb s →
    ((∀ i, ¬Matches s.tlb ea i) → RecordsCause ld s ⟨0#8, 0#2, false, false, false⟩) ∧
    (SeveralMatch s.tlb ea → RecordsCause ld s ⟨0#8, 3#2, false, false, false⟩) ∧
    (∀ i, OnlyMatch s.tlb ea i → ¬Permits s s.tlb.entries[i] 1 →
      RecordsCause ld s ⟨BitVec.ofNat 8 i.val, 1#2, false, false, true⟩)) ∧
  (∀ (st : Instr) (n : Nat) (b a : GReg) (k : Imm9) (s : State) (ea : Word), IsStore st n b a k →
    ea = s.imm k + s.r a → ReachesTlb s n ea → CoherentTlb s →
    ((∀ i, ¬Matches s.tlb ea i) → RecordsCause st s ⟨0#8, 0#2, false, true, false⟩) ∧
    (SeveralMatch s.tlb ea → RecordsCause st s ⟨0#8, 3#2, false, true, false⟩) ∧
    (∀ i, OnlyMatch s.tlb ea i → ¬Permits s s.tlb.entries[i] 2 →
      RecordsCause st s ⟨BitVec.ofNat 8 i.val, 1#2, false, true, true⟩) ∧
    (∀ i, OnlyMatch s.tlb ea i → Permits s s.tlb.entries[i] 2 → s.tlb.entries[i].dirty = false →
      RecordsCause st s ⟨BitVec.ofNat 8 i.val, 2#2, false, true, true⟩)) ∧
  (∀ (ld : Instr) (n : Nat) (d a : GReg) (k : Imm9) (s : State) (ea : Word), ea = s.imm k + s.r a → CoherentTlb s →
    ¬InCRegSpace ea → ld = .prgadd a k ∨ (IsDismissibleLoad ld n d a k ∧ ¬DataBreak s ea ∧
      (ea.toNat % n = 0 ∨ s.psw.getLsbD 4 = false)) →
    ((∀ i, ¬Matches s.tlb ea i) → s.psw.getLsbD 3 = true → RecordsCause ld s ⟨0#8, 0#2, true, false, false⟩) ∧
    (SeveralMatch s.tlb ea → RecordsCause ld s ⟨0#8, 3#2, true, false, false⟩)) ∧
  (∀ (s : State) (a : Word), CoherentTlb s →
    ((∀ i, ¬Matches s.tlb a i) → translateFetch s a = .error ⟨.itlb, a, some ⟨0#8, 0#2, false, false, false⟩⟩) ∧
    (SeveralMatch s.tlb a → translateFetch s a = .error ⟨.itlb, a, some ⟨0#8, 3#2, false, false, false⟩⟩) ∧
    (∀ i, OnlyMatch s.tlb a i → ¬Permits s s.tlb.entries[i] 0 →
      translateFetch s a = .error ⟨.itlb, a, some ⟨BitVec.ofNat 8 i.val, 1#2, false, false, true⟩⟩))

/-- R272, R654, R655: a physical address hits the SCU when one of the four regions holds its bits [31:13]; when data and
instruction breakpoints hit, bits [1:0] taking no part in the second. That the enabled conditions are joined by OR, the
comparisons are unsigned, a data access is compared by its effective address alone and a bundle by its own address alone
are the spec's own choices (decision D32; log 20). -/
def Obligations.ScuAndBreakpointComparisons : Prop :=
  (∀ (s : State) (pa : Word), scuHit s pa = true ↔
    ∃ x : Fin 4, s.scu[x].base.toNat ≤ pa.toNat / 2 ^ 13 ∧ pa.toNat / 2 ^ 13 ≤ s.scu[x].limit.toNat) ∧
  (∀ (s : State) (a : Word), isDBreakHit s a = true ↔ s.psw.getLsbD 8 = true ∧
    BreakCondition s.dbreak.control a.toNat s.dbreak.lower.toNat s.dbreak.upper.toNat (a &&& s.dbreak.upper).toNat) ∧
  (∀ s : State, isIBreakHit s = true ↔ s.psw.getLsbD 9 = true ∧
    BreakCondition s.ibreak.control (s.pc.toNat / 4) (s.ibreak.lower.toNat / 4) (s.ibreak.upper.toNat / 4)
      (s.pc.toNat / 4 &&& s.ibreak.upper.toNat / 4))

/-! ## Control transfer (45_control_transfer.md) -/

/-- R470 to R473, R475, R478, R34: `br` jumps when its branch register is 1, `brf` when it is 0; `call` puts the address
of the following bundle into R63 and jumps; the link-register forms jump to the old R63 with bits [1:0] cleared, as long
as the speculative link register is a true copy (R722, decision D35; log 10), and to some word address if it is not. That
the two low bits of a value loaded into the PC are cleared (D3, R34) and the flag slr_valid (D35) are the spec's own
choices (log 20). -/
def Obligations.BranchesAndCallsJump : Prop :=
  ∀ (p : BitVec 1) (c : BReg) (t : Imm23) (s : State),
    decodeSyllable (branchWord p 0#1 c t) = .ok (.br c t) ∧
    exec (.br c t) s = .next { s with nextPc := if s.b c = true then relativeTarget s.pc t else s.nextPc } ∧
    decodeSyllable (branchWord p 1#1 c t) = .ok (.brf c t) ∧
    exec (.brf c t) s = .next { s with nextPc := if s.b c = false then relativeTarget s.pc t else s.nextPc } ∧
    decodeSyllable (callWord p 0b000#3 0#1 t) = .ok (.callImm t) ∧
    exec (.callImm t) s = .next { s.writeR 63#6 s.nextPc with nextPc := relativeTarget s.pc t } ∧
    decodeSyllable (callWord p 0b000#3 1#1 0#23) = .ok .callLink ∧
    decodeSyllable (callWord p 0b001#3 1#1 0#23) = .ok .gotoLink ∧
    ∃ n : Word, n &&& 3#32 = 0#32 ∧ (s.slrValid = true → n = s.r 63#6 &&& 0xFFFFFFFC#32) ∧
      exec .callLink s = .next { s.writeR 63#6 s.nextPc with nextPc := n } ∧
      exec .gotoLink s = .next { s with nextPc := n }

/-- R474, R690: `goto` jumps; alone in its bundle with offset 0, with the performance monitor off and the output
channels empty, it sets PM_CR.IDLE and the core is idle at the same PC. -/
def Obligations.GotoJumpsOrEntersIdleMode : Prop :=
  ∀ (p : BitVec 1) (t : Imm23) (s : State),
    decodeSyllable (callWord p 0b001#3 0#1 t) = .ok (.gotoImm t) ∧
    (EntersIdle s t → exec (.gotoImm t) s = .next
      { s with nextPc := s.pc, coreIdle := true, pm := { s.pm with idle := true } }) ∧
    (¬EntersIdle s t → exec (.gotoImm t) s = .next { s with nextPc := relativeTarget s.pc t })

/-- R536, R690, R691: an idle core without a wake event stays as it is, but for the debug request that an enabled trigger
makes in debug mode, and its input ports take no data. Which events wake it is the spec's own choice (decision D22; log
20); that waiting is a step that changes nothing else is log 24. -/
def Obligations.IdleCoreWaitsForAWakeEvent : Prop :=
  ∀ s : State, s.coreIdle = true →
    (NoDebugDue s → s.busErrorPending = false → (s.irq = false ∨ s.psw.getLsbD 1 = false) →
      (¬DebugRequested s → coreStep s = .next s) ∧
      (DebugRequested s → coreStep s = .next { s with dsu := { s.dsu with irqPending := true } })) ∧
    (∀ (i : Fin 4) (v : Word), applyEvent (.sdiPush i v) s = s)

/-! ## PSW, traps and caches (46_system.md, 44_load_store_cache.md) -/

/-- R485, R486, R493: in supervisor mode `pswset` and `pswclr` set and clear writable bits of the PSW and change nothing
else, but for the records of what fetch and translation may still use (log 15, log 16). -/
def Obligations.PswSetAndClear : Prop :=
  ∀ (p : BitVec 1) (b : GReg) (s : State),
    decodeSyllable (pswWord p 0b10010#5 b) = .ok (.pswset b) ∧ decodeSyllable (pswWord p 0b10011#5 b) = .ok (.pswclr b) ∧
    (s.psw.getLsbD 0 = false →
      (∃ t, exec (.pswset b) s = .next t ∧ t.psw = pswStored s.psw (s.psw ||| s.r b) ∧
        { t with psw := s.psw, stale := s.stale, tlb := { t.tlb with history := s.tlb.history } } = s) ∧
      (∃ t, exec (.pswclr b) s = .next t ∧ t.psw = pswStored s.psw (s.psw &&& ~~~s.r b) ∧
        { t with psw := s.psw, tlb := { t.tlb with history := s.tlb.history } } = s))

/-- R488, R551, R494: in supervisor mode `rfi` takes PC and PSW from the saved pair and the saved pair from the second
one, which stays; each as it was before the bundle, or, after a store too recent for the hazard, possibly older. That the
two low bits of the new PC are cleared is the spec's own choice (decision D3, R34; log 20). -/
def Obligations.ReturnFromTrapRestoresTheSavedPair : Prop :=
  ∀ (p : BitVec 1) (s : State),
    decodeSyllable (callWord p 0b010#3 0#1 0#23) = .ok .rfi ∧
    (s.psw.getLsbD 0 = false →
      ∃ (t : State) (pc psw pc2 psw2 : Word), exec .rfi s = .next t ∧
        SavedHolds s.savedPc pc ∧ SavedHolds s.savedPsw psw ∧ SavedHolds s.savedSavedPc pc2 ∧
        SavedHolds s.savedSavedPsw psw2 ∧
        t.nextPc = pc &&& 0xFFFFFFFC#32 ∧ t.psw = pswStored s.psw psw ∧ t.savedPc.value = pc2 ∧ t.savedPsw.value = psw2 ∧
        { t with
          nextPc := s.nextPc, psw := s.psw, savedPc := s.savedPc, savedPsw := s.savedPsw
          tlb := { t.tlb with history := s.tlb.history } } = s)

/-- R489 to R491: `syscall`, `sbrk` and `break` raise their exception in either mode, with EXADDRESS 0 and SAVED_PC the
address of the bundle. That trap entry clears slr_valid is the spec's own choice (decision D35; log 10, log 20). -/
def Obligations.SystemCallAndBreakpointsTrap : Prop :=
  ∀ (p : BitVec 1) (n : Imm21) (s : State),
    decodeSyllable (sysWord p 0b1111110#7 n) = .ok (.syscall n) ∧
    decodeSyllable (sysWord 1#1 0b1111101#7 n) = .ok (.sbrk n) ∧
    decodeSyllable (sysWord p 0b1111111#7 0#21) = .ok .breakOp ∧
    (∃ t, exec (.syscall n) s = .next t ∧ RaisesPlain .syscall 0#32 s t ∧ t.excauseno = 7#5) ∧
    (∃ t, exec (.sbrk n) s = .next t ∧ RaisesPlain .sbreak 0#32 s t ∧ t.excauseno = 5#5) ∧
    (∃ t, exec .breakOp s = .next t ∧ RaisesPlain .illInst 0#32 s t ∧ t.excauseno = 6#5)

/-- R487, R561: in user mode the five privileged operations raise ILL_INST and do nothing else. That trap entry clears
slr_valid is the spec's own choice (decision D35; log 10, log 20). -/
def Obligations.PrivilegedOperationsTrapInUserMode : Prop :=
  ∀ (i : Instr) (s : State), IsPrivileged i → s.psw.getLsbD 0 = true →
    ∃ t, exec i s = .next t ∧ RaisesPlain .illInst 0#32 s t

/-- R451 to R457, R182, R183, R186: prefetch, purges and `sync` complete and change no architectural state: at most the
model's records of what an instruction fetch may still see (log 15, log 16), and for a `pft` whose line fill fails the
pending bus error, freely (log 29). `prgadd` raises DTLB for several pages, or for none with TLB_DYNAMIC. That the data
caches are transparent (decision D7; log 17), that `prgadd` in control register space is ignored (D13; log 20) and that
trap entry clears slr_valid (D35; log 10, log 20) are the spec's own choices. -/
def Obligations.CacheOperationsChangeNoArchitecturalState : Prop :=
  ∀ (p : BitVec 1) (a : GReg) (i : Imm9) (s : State) (ea : Word), ea = s.imm i + s.r a →
    decodeSyllable (memoryWord p 0b01101#5 i 0#6 a) = .ok (.pft a i) ∧
    (∃ t, exec (.pft a i) s = .next t ∧ (t = s ∨ (t = { s with busErrorPending := true } ∧ ¬InCRegSpace ea ∧
      cachedAccess s ea = true ∧ readViolation s ea = false ∧ scuHit s (translate s ea) = true ∧
      windowOf s.cfg (translate s ea) = .memory ∧ busReadError s.cfg (translate s ea) = true))) ∧
    decodeSyllable (memoryWord p 0b01111#5 i 0#6 a) = .ok (.prgset a i) ∧
    (∃ t, exec (.prgset a i) s = .next t ∧ { t with stale := s.stale } = s) ∧
    decodeSyllable (memoryWord p 0b10000#5 0#9 0#6 0#6) = .ok .sync ∧
    (∃ t, exec .sync s = .next t ∧ { t with stale := s.stale } = s) ∧
    decodeSyllable (memoryWord p 0b01110#5 i 0#6 a) = .ok (.prgadd a i) ∧
    (InCRegSpace ea ∨ (multiMapping s ea = false ∧ (noTranslation s ea = false ∨ s.psw.getLsbD 3 = false)) →
      ∃ t, exec (.prgadd a i) s = .next t ∧ { t with stale := s.stale } = s) ∧
    (¬InCRegSpace ea → (multiMapping s ea = true ∨ (noTranslation s ea = true ∧ s.psw.getLsbD 3 = true)) →
      ∃ t, exec (.prgadd a i) s = .next t ∧ Raises .dtlb ea s t ∧ t.tlb.excause.spec = true ∧
        t.tlb.excause.write = false) ∧
    decodeSyllable (sysWord p 0b1111100#7 0#21) = .ok .prgins ∧
    decodeSyllable (memoryWord p 0b10001#5 i 0#6 a) = .ok (.prginspg a i) ∧
    (s.psw.getLsbD 0 = false →
      (∃ t, exec .prgins s = .next t ∧
        { t with stale := s.stale, tlb := { t.tlb with history := s.tlb.history } } = s) ∧
      (∃ t, exec (.prginspg a i) s = .next t ∧
        { t with stale := s.stale, tlb := { t.tlb with history := s.tlb.history } } = s))

/-- R189, R171, R179, R260, R517: after `prgadd` of a line, or an uncached store to it or uncached dismissible load from it
that the SCU refuses, `sync`, `prgins` and `syncins`, executed one after the other in supervisor mode, an instruction fetch
from that line can return no older value; after an uncached load that reads the line, `prgins` and `syncins` do. A store of 3 to TLB_CONTROL empties both micro-TLBs; after a
`syncins` or an `rfi`, with the micro-TLBs holding copies of present entries at most, no older translation is in use. A
committed bundle that takes a branch makes earlier invalidations of the instruction cache effective, as `syncins` does; a
`prginspg` beside the branch keeps its own for later, which is the model's choice (log 15). An exception or a debug
interrupt empties the pipeline and the instruction buffer (log 15, log 16). -/
def Obligations.CoherencySequencesTakeEffect : Prop :=
  (∀ (a : GReg) (i : Imm9) (s s1 s2 s3 s4 : State) (ea va pa : Word), ea = s.imm i + s.r a → ¬InCRegSpace ea →
    noTranslation s ea = false → multiMapping s ea = false → readViolation s ea = false → s.psw.getLsbD 0 = false →
    exec (.prgadd a i) s = .next s1 → exec .sync s1 = .next s2 → exec .prgins s2 = .next s3 →
    exec (.pswset 0#6) s3 = .next s4 → pa.toNat / 32 = (translate s ea).toNat / 32 → staleValues s4 va pa = []) ∧
  (∀ (i : Instr) (n : Nat) (b a : GReg) (k : Imm9) (s s1 s2 s3 s4 : State) (ea va pa : Word),
    (IsStore i n b a k ∧ WritePasses s n ea) ∨
      (IsDismissibleLoad i n b a k ∧ ReadPasses s n ea ∧ scuHit s (translate s ea) = false) →
    ea = s.imm k + s.r a → windowOf s.cfg (translate s ea) = .memory →
    cachedAccess s ea = false → s.psw.getLsbD 0 = false → exec i s = .next s1 → exec .sync s1 = .next s2 →
    exec .prgins s2 = .next s3 → exec (.pswset 0#6) s3 = .next s4 →
    pa.toNat / 32 = (translate s ea).toNat / 32 → staleValues s4 va pa = []) ∧
  (∀ (i : Instr) (n : Nat) (x : Bool) (d a : GReg) (k : Imm9) (s s1 s2 s3 : State) (ea va pa : Word),
    IsNormalLoad i n x d a k ∨ (IsDismissibleLoad i n d a k ∧ scuHit s (translate s ea) = true) →
    ea = s.imm k + s.r a → ReadPasses s n ea → windowOf s.cfg (translate s ea) = .memory → cachedAccess s ea = false → s.psw.getLsbD 0 = false →
    exec i s = .next s1 → exec .prgins s1 = .next s2 → exec (.pswset 0#6) s2 = .next s3 →
    pa.toNat / 32 = (translate s ea).toNat / 32 → staleValues s3 va pa = []) ∧
  (∀ (b a : GReg) (i : Imm9) (s : State), s.psw.getLsbD 0 = false → ¬DataBreak s (s.imm i + s.r a) →
    (s.imm i + s.r a).toNat = 0xFFFFFF50 → s.r b = 3#32 →
    ∃ t, exec (.stw b a i) s = .next t ∧ t.tlb.history.recent = [] ∧ t.tlb.history.itlb.copies = [] ∧
      t.tlb.history.dtlb.copies = [] ∧ t.tlb.entries = s.tlb.entries) ∧
  (∀ s : State, s.psw.getLsbD 0 = false → CopiesCurrent s.tlb s.tlb.history.itlb.copies →
    CopiesCurrent s.tlb s.tlb.history.dtlb.copies →
    (∃ t, exec (.pswset 0#6) s = .next t ∧ UpToDate t.tlb ∧ t.tlb.entries = s.tlb.entries) ∧
    (∃ t, exec .rfi s = .next t ∧ UpToDate t.tlb ∧ t.tlb.entries = s.tlb.entries)) ∧
  (∀ (s : State) (is : List Instr) (i : Instr) (t : State), i ∈ is → changesPc i = true → takenBranch s i = true →
    ((∀ a k, .prginspg a k ∉ is) →
      ∀ x ∈ (finish s ⟨.committed is, t⟩).stale, x.invalidated &&& ~~~x.clean = 0#4) ∧
    (∀ (a : GReg) (k : Imm9) (ea : Word), .prginspg a k ∈ is → t.stale = s.stale.map (fun x => x.invalidatePage ea) →
      ∀ x ∈ (finish s ⟨.committed is, t⟩).stale, ∃ o ∈ s.stale, x.addr = o.addr ∧ x.old = o.old ∧
        x.stage = o.stage ∧ o.invalidated &&& ~~~x.clean = 0#4)) ∧
  (∀ (s t : State) (x : Exc), Emptied (finish s ⟨.trapped x, t⟩) ∧ Emptied (finish s ⟨.debug, t⟩))

/-! ## Bundles (30_encoding.md, 10_state.md R91 to R96) -/

/-- R292, R290: the syllables of a bundle are read in order up to the first whose bit 31 is set, four at most; the fetch
stops at the first that cannot be read. With translation off, no stored word still on its way to instruction fetch and
external memory at the address, a syllable is the word there in the core's byte order. -/
def Obligations.BundlesAreFetchedUpToTheStopBit : Prop :=
  (∀ s : State,
    (∀ k w, (fetchBundle s).words[k]? = some w → fetchSyllable s (syllableAddr s.pc k) = .ok w ∧ k < 4) ∧
    (∀ k w, (fetchBundle s).words[k]? = some w → w.getLsbD 31 = true → k + 1 = (fetchBundle s).words.length ∧
      (fetchBundle s).error = none) ∧
    (∀ e, (fetchBundle s).error = some e ↔ (fetchBundle s).words.length < 4 ∧
      fetchSyllable s (syllableAddr s.pc (fetchBundle s).words.length) = .error e ∧
      ∀ w ∈ (fetchBundle s).words, w.getLsbD 31 = false) ∧
    ((fetchBundle s).error = none → (fetchBundle s).words.length = 4 ∨
      ∃ w, (fetchBundle s).words.getLast? = some w ∧ w.getLsbD 31 = true)) ∧
  (∀ (s : State) (a : Word), s.psw.getLsbD 2 = false → s.stale = [] → ReadableMemory s a →
    fetchSyllable s a = .ok (BitVec.ofNat 32 (memNumber s.cfg.bigEndian s.mem a 4)))

/-- R310 to R321: a bundle is taken as legal exactly when the restrictions hold, and an illegal one raises ILL_INST, or
SBREAK if one of its syllables is `sbrk`, which is the spec's own choice (decision D1, 60_exceptions.md R521; log 20), as
are that `call` counts as a writer of R63 (D18) and that trap entry clears slr_valid (D35; log 10). -/
def Obligations.IllegalBundlesRaise : Prop :=
  (∀ (pc : Word) (ws : List Word) (is : List Instr), legalBundle pc ws = some is ↔ Legal pc ws is) ∧
  (∀ (s : State) (ws : List Word), (∀ is, ¬Legal s.pc ws is) →
    ∃ (x : Exc) (t : State), evalWords s ws = .next ⟨.trapped x, t⟩ ∧ RaisesPlain x 0#32 s t ∧
      ((∃ w ∈ ws, ∃ n, decodeSyllable w = .ok (.sbrk n)) → x = .sbreak) ∧
      ((¬∃ w ∈ ws, ∃ n, decodeSyllable w = .ok (.sbrk n)) → x = .illInst))

/-- R91, R95, R96: when no operation of a legal bundle raises or waits, all of them, each with its extension, read the state
before the bundle, and the bundle commits: every destination takes the result its operation computes there, PC what the
control transfer gives it or else the address of the next bundle, everything else what a lone operation or the one
load/store-unit operation makes it or, without such a one, what it was (but for idle mode, O37). -/
def Obligations.OperationsOfABundleCommitTogether : Prop :=
  ∀ (s : State) (ws : List Word) (is : List Instr), s.AtRest → Legal s.pc ws is →
    (∀ o ∈ operations s.pc is, ∃ u, runOp (s.withNextPc ws.length) o = .next u ∧ u.signal = .done) →
    ∃ t, evalWords s ws = .next ⟨.committed is, t⟩ ∧
      (∀ o ∈ operations s.pc is, ∀ u, runOp (s.withNextPc ws.length) o = .next u →
        (∀ r, destG o.1 = some r → t.r r = u.r r) ∧ (∀ b, destB o.1 = some b → t.b b = u.b b) ∧
        (changesPc o.1 = true → t.nextPc = u.nextPc) ∧
        (usesLsu o.1 = true ∨ operations s.pc is = [o] → { t with
          gpr := u.gpr, br := u.br, slrValid := u.slrValid, ext := u.ext, nextPc := u.nextPc } = u)) ∧
      (∀ r, (∀ i ∈ is, destG i ≠ some r) → t.r r = s.r r) ∧
      (∀ b, (∀ i ∈ is, destB i ≠ some b) → t.b b = s.b b) ∧
      ((∀ i ∈ is, changesPc i = false) → t.nextPc = syllableAddr s.pc ws.length) ∧
      ((∀ i ∈ is, usesLsu i = false ∧ i ≠ .prgins) → { t with
        gpr := s.gpr, br := s.br, slrValid := s.slrValid, ext := s.ext, nextPc := s.nextPc, coreIdle := s.coreIdle
        pm := { t.pm with idle := s.pm.idle } } = s)

/-! ## Exceptions and interrupts (60_exceptions.md) -/

/-- R513, R514, R516, R257: a bundle that ends in a trap commits nothing; trap entry writes what R514 says. EXADDRESS is 0
but for the seven exceptions of R516; where the fetch or an operation raises, it and TLB_EXCAUSE are what that one records,
and else 0 and what TLB_EXCAUSE was. That SDI_TIMEOUT records an address (decision D24) and that trap entry clears
slr_valid (D35; log 10) are the spec's own choices (log 20). -/
def Obligations.TrapsDiscardTheBundle : Prop :=
  ∀ (async : List Raise) (s u : State) (x : Exc), AtBoundary s →
    (∀ r ∈ async, r = .plain .stbusDcError ∨ r = .plain .externInt) →
    evalBundle async s = .next ⟨.trapped x, u⟩ →
    ∃ v, Trapped x v s (finish s ⟨.trapped x, u⟩) ∧
      TrapSource async s x v (finish s ⟨.trapped x, u⟩).tlb.excause ∧
      (x ∉ ([.dbreak, .misalignedTrap, .cregNoMapping, .cregAccessViolation, .dtlb, .itlb, .sdiTimeout] : List Exc) →
        v = 0#32)

/-- R520, R521: if anything is due at the boundary or raised by the fetch, the bundle traps with the highest priority of
these; else, if operations of a legal bundle raise, with the highest priority of theirs. That those of the boundary and the
fetch are collected first is the spec's own choice (decision D1; log 20). -/
def Obligations.HighestPriorityExceptionIsTaken : Prop :=
  ∀ s : State, AtBoundary s →
    ((∃ x, BoundaryRaises s x) → ∃ x u, evalBundle (asyncRaises s) s = .next ⟨.trapped x, u⟩ ∧
      BoundaryRaises s x ∧ ∀ y, BoundaryRaises s y → x.number ≤ y.number) ∧
    ((¬∃ x, BoundaryRaises s x) → (∃ x, OperationRaises s x) →
      ∃ x u, evalBundle (asyncRaises s) s = .next ⟨.trapped x, u⟩ ∧ OperationRaises s x ∧
        ∀ y, OperationRaises s y → x.number ≤ y.number)

/-- R540, R541, R643, R536: outside debug mode a requested debug interrupt, by the host or by the trigger input while
TRIGGER_ENABLE is set, is taken before the bundle and instead of any exception, by an idle core, which is idle no more,
and by one whose bundle waits on an SDI port and cannot go on; it saves both levels, enters debug mode, turns translation
off and goes to the debug handler. That it comes before any exception (decision D1), the cleared request and the address
DEBUG_HANDLER_PC (D23), the level-sensitive trigger (D31), the wake of an idle core (D22), the end of a stall (D30) and
that debug entry clears slr_valid (D35; log 10) are the spec's own choices (log 20). -/
def Obligations.DebugInterruptIsTakenFirst : Prop :=
  (∀ s : State, s.AtRest → s.waiting = none → DebugRequested s → s.psw.getLsbD 12 = false →
    ∃ t, coreStep s = .next t ∧ DebugEntered { s with coreIdle := false } t) ∧
  (∀ (s : State) (ws : List Word) (b : BundleEnd), StallTurn s ws b → (¬∃ is, b.ending = .committed is) →
    DebugRequested s → s.psw.getLsbD 12 = false → ∃ t, coreStep s = .next t ∧ DebugEntered s t)

/-- R524, R530, R536: at a bundle boundary a pending data-side bus error is taken, and else an enabled interrupt, unless
the fetch meets a bus error; also by an idle core, which is idle no more. That the bus error is taken at the next boundary
(decision D20; log 11), that the interrupt is taken at the first one at which it is due (D21, R531), which events wake an
idle core (D22) and that trap entry clears slr_valid (D35; log 10) are the spec's own choices (log 20). -/
def Obligations.BusErrorsAndInterruptsAreTakenAtTheBoundary : Prop :=
  ∀ s u : State, s.AtRest → s.waiting = none → NoDebugDue s → u = { sampleTrigger s with coreIdle := false } →
    (∀ r, (fetchBundle (noteAccesses u)).error = some r → r.exc ≠ .stbusIcError) →
    (s.busErrorPending = true → ∃ t, coreStep s = .next t ∧ Trapped .stbusDcError 0#32 u t) ∧
    (s.busErrorPending = false → s.irq = true → s.psw.getLsbD 1 = true →
      ∃ t, coreStep s = .next t ∧ Trapped .externInt 0#32 u t)

/-! ## The step -/

/-- R95: at a boundary where nothing else is due, when the syllable at PC has the stop bit and decodes to an operation
that is legal alone, the step is that operation's `exec` with NEXT_PC four bytes on, its end, and the environment's
inputs; before it only the trigger input is sampled (61 R643, decision D31; log 20), and what the micro-TLBs may hold is
noted, if translation is on (log 16). The end gives PC the value of NEXT_PC, lets hazards run out (log 9, log 16),
invalidates the instruction buffer if a branch is taken (R171; log 15) and puts the model's own fields back. -/
def Obligations.StepRunsTheDecodedInstruction : Prop :=
  (∀ (s n t : State) (w : Word) (i : Instr), Undisturbed s → n = noteAccesses (sampleTrigger s) → fetchSyllable n n.pc = .ok w →
    w.getLsbD 31 = true → decodeSyllable w = .ok i → i.wellFormed = true → isExtension i = false →
    (kindOf i = .multiply → n.pc.getLsbD 2 = true) →
    exec i { n with nextPc := n.pc + 4#32 } = .next t →
    (t.signal = .done → step s = .next (envTick (finish n ⟨.committed [i], t⟩))) ∧
    (∀ x, t.signal = .raised x → step s = .next (envTick (finish n ⟨.trapped x, t⟩))) ∧
    (t.signal = .stalled → step s = .next (envTick (finish n ⟨.waiting [w], t⟩)))) ∧
  (∀ s : State, { noteAccesses s with tlb := { (noteAccesses s).tlb with history := s.tlb.history } } = s ∧
    (s.psw.getLsbD 2 = false → noteAccesses s = s) ∧
    { sampleTrigger s with dsu := { (sampleTrigger s).dsu with irqPending := s.dsu.irqPending } } = s ∧
    ((sampleTrigger s).dsu.irqPending = true ↔ DebugRequested s)) ∧
  (∀ (s t : State) (is : List Instr), s.pm.enb = false →
    finish s ⟨.committed is, t⟩ = { (if refetches s is then refetch s is (tickHazards t) else tickHazards t) with
      pc := t.nextPc, ext := none, signal := .done, cregStored := none, waiting := none, free := t.free + 1 })

/-- R701, R702: what reset leaves, for the values the spec gives, whatever the parameters. -/
def Obligations.ResetValues : Prop :=
  ∀ (c : Cfg) (s : State), s = State.resetWith c →
    s.pc = (if c.debugEnable then (c.peripheralBasePins ++ 0#20) + 0x4000#32 else c.resetPc) ∧ s.r 0#6 = 0#32 ∧
    s.psw = 0#32 ∧ s.excauseno = 0#5 ∧ s.partition = 0#2 ∧ s.tlb.index = 0#8 ∧ s.tlb.asid = 0#8 ∧
    s.tlb.excause = ⟨0#8, 0#2, false, false, false⟩ ∧ s.tlb.limit = 0x40#8 ∧ s.tlb.lfsr = 0xFFFF#16 ∧
    (∀ x : Fin 4, s.scu[x].base = 0#19 ∧ s.scu[x].limit = 0x7FFFF#19) ∧
    s.dbreak = ⟨0#32, 0#32, 0#4⟩ ∧ s.ibreak = ⟨0#32, 0#32, 0#4⟩ ∧ s.pm.enb = false ∧ s.pm.idle = false ∧
    (∀ x : Fin 4, s.pm.events[x] = 0#5 ∧ s.pm.cnt[x] = 0#32) ∧ s.pm.pclk = 0#32 ∧
    (∀ x : Fin 4, s.sdi[x].priv = 0#2 ∧ s.sdi[x].resetOut = false ∧ s.sdi[x].timeoutDisable = false ∧
      s.sdi[x].count = c.sdi[x].countReset ∧ s.sdi[x].timeout = c.sdi[x].countReset ∧ s.sdi[x].chan = []) ∧
    s.intc.mask = 0#64 ∧ s.intc.test = 0#64 ∧ s.timers.divide = 0#16 ∧ s.timers.presc = 0#16 ∧
    (∀ x : Fin 3, s.timers.timer[x] = ⟨0#32, 0#32, false, false, false⟩) ∧
    s.dsu.supervisorWrite = true ∧ s.dsu.userWrite = false ∧ s.dsu.outputPending = false ∧
    s.dsu.eventAckPending = false ∧ s.dsu.triggerOut = false ∧ s.dsu.triggerEnable = false ∧ s.dsu.swFlags = 0#16 ∧
    (∀ x : Fin 30, s.dsu.regs[x] = 0#32) ∧ s.slrValid = true ∧ s.coreIdle = false ∧ s.dsu.irqPending = false ∧
    s.busErrorPending = false

/-- The invariant holds after reset, whatever the parameters, if RESET_PC is word aligned. -/
def Obligations.ResetMeetsTheInvariant : Prop :=
  State.reset.Inv ∧ ∀ c : Cfg, c.resetPc &&& 3#32 = 0#32 → (State.resetWith c).Inv

/-- Every step keeps the invariant: the PC stays word aligned (R32), the reserved bits of the PSW stay 0 (R45), memory
stays canonical, TLB_INDEX stays at most 63 (R236), no SDI channel overflows (R620), an idle core has empty output
channels, a stopped performance monitor and PM_CR.IDLE set (R690), and no operation is left half evaluated. -/
def Obligations.EveryStepKeepsTheInvariant : Prop :=
  ∀ s t : State, s.Inv → step s = .next t → t.Inv

/-- R560 to R562, R48: a step of the core in user mode either stays in user mode and leaves all privileged state as it
was, or enters supervisor mode at HANDLER_PC or DEBUG_HANDLER_PC with the interrupted PSW and PC saved; and no step of
the core enters debug mode but by taking a debug interrupt. -/
def Obligations.UserModeCannotChangePrivilegedState : Prop :=
  (∀ s t : State, s.AtRest → s.psw.getLsbD 0 = true → coreStep s = .next t →
    (t.psw.getLsbD 0 = true → SamePrivilegedState s t) ∧
    (t.psw.getLsbD 0 = false → t.savedPsw.value = s.psw ∧ t.savedPc.value = s.pc ∧
      (t.pc = s.handlerPc &&& 0xFFFFFFFC#32 ∨ t.pc = s.cfg.debugHandlerPc &&& 0xFFFFFFFC#32))) ∧
  (∀ s t : State, s.AtRest → s.psw.getLsbD 12 = false → coreStep s = .next t → t.psw.getLsbD 12 = true →
    debugPending (sampleTrigger s) = true ∧ t.pc = s.cfg.debugHandlerPc &&& 0xFFFFFFFC#32)

/-- Nothing stops the machine: `exec` answers a next state for every instruction and every state, and so does the step. -/
def Obligations.NoInstructionStopsTheMachine : Prop :=
  (∀ (i : Instr) (s : State), ∃ t, exec i s = .next t) ∧ ∀ s : State, ∃ t, step s = .next t

/-! ## Encoding (30_encoding.md R291 to R306) -/

/-- Decoding the word the encoder writes gives back every instruction, with every operand, with the stop bit clear (but
for `sbrk`, which must have it) and set. -/
def Obligations.DecodeOfEncodeIsTheInstruction : Prop :=
  ∀ i : Instr, decodeSyllable (encode i) = .ok i ∧ decodeSyllable (encode i ||| 0x80000000#32) = .ok i

/-- Every word that decodes is the encoding of its instruction, up to the stop bit: no bit of a syllable is ignored
(R313). -/
def Obligations.EncodeOfDecodeIsTheWord : Prop :=
  ∀ (w : Word) (i : Instr), decodeSyllable w = .ok i → encode i ||| 0x80000000#32 = w ||| 0x80000000#32

/-- Words the spec writes out decode to the instructions it says. -/
def Obligations.WordsOfTheSpecDecode : Prop :=
  decodeSyllable 0x20008042#32 = .ok (.ldw 1#6 2#6 8#9) ∧ decodeSyllable 0x250080C2#32 = .ok (.stw 3#6 2#6 8#9) ∧
  decodeSyllable 0x9FC00005#32 = .ok (.syscall 5#21) ∧ decodeSyllable 0x9FA00001#32 = .ok (.sbrk 1#21) ∧
  decodeSyllable 0x29000100#32 = .ok (.pswset 4#6) ∧ decodeSyllable 0x32000000#32 = .ok .rfi ∧
  decodeSyllable 0x30000400#32 = .ok (.callImm 0x400#23) ∧ decodeSyllable 0x3C800008#32 = .ok (.brf 1#3 8#23) ∧
  decodeSyllable 0x15012345#32 = .ok (.imml 0x12345#23) ∧ decodeSyllable 0x15FFFFFF#32 = .ok (.immr 0x7FFFFF#23) ∧
  decodeSyllable 0x1FE00000#32 = .ok .breakOp ∧ decodeSyllable 0xA8000000#32 = .ok .sync ∧
  decodeSyllable 0x1FA00001#32 = .error .sbrkStopBit
end

