-- ==== Sys2Proof/Laws/Memory.lean ====
section
/-! SUPPORT. Memory as a list in canonical form: what a byte reads as after a write, and that every operation on memory
keeps the form. -/

namespace Sys2Proof.Machine

/-! ## The canonical form -/

theorem memWfFrom_cons (lo : Nat) (c : Host.Cell) (m : List Host.Cell) :
    memWfFrom lo (c :: m) = true ↔ lo ≤ c.1 ∧ c.1 < 2 ^ 32 ∧ c.2 ≠ unlistedByte ∧ memWfFrom (c.1 + 1) m = true := by
  simp [memWfFrom, and_assoc]

/-- The form from an address on holds from every lower address on. -/
theorem memWfFrom_mono {lo lo' : Nat} {m : List Host.Cell} (h : memWfFrom lo m = true) (hl : lo' ≤ lo) :
    memWfFrom lo' m = true := by
  cases m with
  | nil => rfl
  | cons c m => rw [memWfFrom_cons] at h ⊢; exact ⟨by omega, h.2⟩

/-- Below the first address every byte is unlisted. -/
theorem memByte_below {lo : Nat} {m : List Host.Cell} (h : memWfFrom lo m = true) {a : Nat} (ha : a < lo) :
    memByte m a = unlistedByte := by
  induction m generalizing lo with
  | nil => rfl
  | cons c m ih =>
    rw [memWfFrom_cons] at h
    rw [memByte, if_neg (by omega)]
    exact ih h.2.2.2 (by omega)

theorem memCons_wf {lo a : Nat} {v : Byte} {m : List Host.Cell} (h : memWfFrom (a + 1) m = true) (hl : lo ≤ a)
    (ha : a < 2 ^ 32) : memWfFrom lo (memCons a v m) = true := by
  unfold memCons
  split
  · exact memWfFrom_mono h (by omega)
  · exact (memWfFrom_cons _ _ _).2 ⟨hl, ha, ‹_›, h⟩

theorem memSet_wfFrom {lo a : Nat} {v : Byte} {m : List Host.Cell} (h : memWfFrom lo m = true) (hl : lo ≤ a)
    (ha : a < 2 ^ 32) : memWfFrom lo (memSet m a v) = true := by
  induction m generalizing lo with
  | nil => exact memCons_wf rfl hl ha
  | cons c m ih =>
    have hc := (memWfFrom_cons _ _ _).1 h
    unfold memSet
    split
    · exact memCons_wf ((memWfFrom_cons _ _ _).2 ⟨by omega, hc.2⟩) hl ha
    · split
      · subst a; exact memCons_wf hc.2.2.2 hl ha
      · exact (memWfFrom_cons _ _ _).2 ⟨hc.1, hc.2.1, hc.2.2.1, ih hc.2.2.2 (by omega)⟩

/-- Writing a byte keeps the canonical form. -/
theorem memSet_wf {m : List Host.Cell} (h : Memory.wf m = true) {a : Nat} (v : Byte) (ha : a < 2 ^ 32) :
    Memory.wf (memSet m a v) = true := memSet_wfFrom h (Nat.zero_le a) ha

/-- A store keeps the canonical form. -/
theorem memStore_wf {m : List Host.Cell} (h : Memory.wf m = true) (big : Bool) (w : Width) (pa v : Word) :
    Memory.wf (memStore big m w pa v) = true := by
  cases w
  · exact memSet_wf h _ pa.isLt
  · exact memSet_wf (memSet_wf h _ pa.isLt) _ (BitVec.isLt _)
  · exact memSet_wf (memSet_wf (memSet_wf (memSet_wf h _ pa.isLt) _ (BitVec.isLt _)) _ (BitVec.isLt _)) _ (BitVec.isLt _)

/-- Placing words keeps the canonical form. -/
theorem storeWords_wf {m : List Host.Cell} (h : Memory.wf m = true) (big : Bool) (pa : Word) (ws : List Word) :
    Memory.wf (storeWords big m pa ws) = true := by
  induction ws generalizing m pa with
  | nil => exact h
  | cons w ws ih => exact ih (memStore_wf h big .word pa w) _

/-! ## Reading after writing -/

theorem memByte_memCons {a : Nat} {v : Byte} {m : List Host.Cell} (h : memWfFrom (a + 1) m = true) (b : Nat) :
    memByte (memCons a v m) b = if b = a then v else memByte m b := by
  unfold memCons
  split
  · rename_i hv
    by_cases hb : b = a
    · rw [if_pos hb, memByte_below h (by omega), hv]
    · rw [if_neg hb]
  · by_cases hb : b = a
    · simp [memByte, hb]
    · rw [if_neg hb, memByte, if_neg (fun e => hb e.symm)]

theorem memByte_memSet_from {lo : Nat} {m : List Host.Cell} (h : memWfFrom lo m = true) (a : Nat) (v : Byte) (b : Nat) :
    memByte (memSet m a v) b = if b = a then v else memByte m b := by
  induction m generalizing lo with
  | nil => exact memByte_memCons rfl b
  | cons c m ih =>
    have hc := (memWfFrom_cons _ _ _).1 h
    unfold memSet
    split
    · exact memByte_memCons ((memWfFrom_cons _ _ _).2 ⟨by omega, hc.2⟩) b
    · split
      · subst a
        rw [memByte_memCons hc.2.2.2]
        by_cases hb : b = c.1
        · rw [if_pos hb, if_pos hb]
        · rw [if_neg hb, if_neg hb, memByte, if_neg (fun e => hb e.symm)]
      · rw [memByte, ih hc.2.2.2, memByte]
        by_cases hb : c.1 = b
        · rw [if_pos hb, if_pos hb, if_neg (by omega)]
        · rw [if_neg hb, if_neg hb]

/-- A byte of memory after a byte is written: that byte there, every other as before. -/
theorem memByte_memSet {m : List Host.Cell} (h : Memory.wf m = true) (a : Nat) (v : Byte) (b : Nat) :
    memByte (memSet m a v) b = if b = a then v else memByte m b := memByte_memSet_from h a v b

/-- A store leaves every byte it does not cover. -/
theorem memByte_memStore_other {m : List Host.Cell} (h : Memory.wf m = true) (big : Bool) (w : Width) (pa v : Word)
    {a : Nat} (ha : ¬w.covers pa a) : memByte (memStore big m w pa v) a = memByte m a := by
  cases w
  · simp only [Width.covers] at ha
    simp only [memStore]
    rw [memByte_memSet h, if_neg ha]
  · simp only [Width.covers, not_or] at ha
    have h1 := memSet_wf h (valueByte v (if big then 1 else 0)) pa.isLt
    simp only [memStore]
    rw [memByte_memSet h1, if_neg ha.2, memByte_memSet h, if_neg ha.1]
  · simp only [Width.covers, not_or] at ha
    have h1 := memSet_wf h (valueByte v (if big then 3 - 0 else 0)) pa.isLt
    have h2 := memSet_wf h1 (valueByte v (if big then 3 - 1 else 1)) (pa + 1#32).isLt
    have h3 := memSet_wf h2 (valueByte v (if big then 3 - 2 else 2)) (pa + 2#32).isLt
    simp only [memStore]
    rw [memByte_memSet h3, if_neg ha.2.2.2, memByte_memSet h2, if_neg ha.2.2.1, memByte_memSet h1, if_neg ha.2.1,
      memByte_memSet h, if_neg ha.1]

theorem add_ne_self (pa : Word) (k j : Nat) (hk : k < 4) (hj : j < 4) (h : k ≠ j) :
    (pa + BitVec.ofNat 32 k).toNat ≠ (pa + BitVec.ofNat 32 j).toNat := by
  have := pa.isLt
  simp only [BitVec.toNat_add, BitVec.toNat_ofNat]
  omega

/-- A word is its four bytes. -/
theorem word_of_bytes (v : Word) :
    v.extractLsb' 24 8 ++ v.extractLsb' 16 8 ++ v.extractLsb' 8 8 ++ v.extractLsb' 0 8 = v := by
  ext i hi
  simp only [BitVec.getElem_append, BitVec.getElem_extractLsb']
  split
  · simp [BitVec.getLsbD_eq_getElem hi]
  · split
    · rw [show 8 + (i - 8) = i by omega, BitVec.getLsbD_eq_getElem hi]
    · split
      · rw [show 16 + (i - 8 - 8) = i by omega, BitVec.getLsbD_eq_getElem hi]
      · rw [show 24 + (i - 8 - 8 - 8) = i by omega, BitVec.getLsbD_eq_getElem hi]

/-- The four bytes of a word after a word is stored. -/
theorem memByte_memStore_word {m : List Host.Cell} (h : Memory.wf m = true) (big : Bool) (pa v : Word) {i : Nat}
    (hi : i < 4) : memByte (memStore big m .word pa v) (pa + BitVec.ofNat 32 i).toNat =
      valueByte v (if big then 3 - i else i) := by
  have e0 : pa.toNat = (pa + BitVec.ofNat 32 0).toNat := by simp
  have n := fun k j hk hj hkj => add_ne_self pa k j hk hj hkj
  have h1 := memSet_wf h (valueByte v (if big then 3 - 0 else 0)) pa.isLt
  have h2 := memSet_wf h1 (valueByte v (if big then 3 - 1 else 1)) (pa + 1#32).isLt
  have h3 := memSet_wf h2 (valueByte v (if big then 3 - 2 else 2)) (pa + 2#32).isLt
  have n01 := n 0 1 (by omega) (by omega) (by omega)
  have n02 := n 0 2 (by omega) (by omega) (by omega)
  have n03 := n 0 3 (by omega) (by omega) (by omega)
  have n12 := n 1 2 (by omega) (by omega) (by omega)
  have n13 := n 1 3 (by omega) (by omega) (by omega)
  have n23 := n 2 3 (by omega) (by omega) (by omega)
  rw [← e0] at n01 n02 n03
  obtain rfl | rfl | rfl | rfl : i = 0 ∨ i = 1 ∨ i = 2 ∨ i = 3 := by omega
  · rw [← e0]
    simp only [memStore]
    rw [memByte_memSet h3, if_neg n03, memByte_memSet h2, if_neg n02, memByte_memSet h1, if_neg n01,
      memByte_memSet h, if_pos rfl]
  · simp only [memStore]
    rw [memByte_memSet h3, if_neg n13, memByte_memSet h2, if_neg n12, memByte_memSet h1, if_pos rfl]
  · simp only [memStore]
    rw [memByte_memSet h3, if_neg n23, memByte_memSet h2, if_pos rfl]
  · simp only [memStore]
    rw [memByte_memSet h3, if_pos rfl]

/-- The bytes of four bytes put together. -/
theorem valueByte_append (a b c d : Byte) :
    valueByte (a ++ b ++ c ++ d) 0 = d ∧ valueByte (a ++ b ++ c ++ d) 1 = c ∧ valueByte (a ++ b ++ c ++ d) 2 = b ∧
      valueByte (a ++ b ++ c ++ d) 3 = a := by
  unfold valueByte
  refine ⟨?_, ?_, ?_, ?_⟩ <;> ext j hj <;> rw [BitVec.getElem_extractLsb'] <;> simp only [BitVec.getLsbD_append] <;>
    interval_cases j <;> rfl

/-- The bytes of a word loaded. -/
theorem valueByte_memLoad_word (big : Bool) (m : List Host.Cell) (pa : Word) {i : Nat} (hi : i < 4) :
    valueByte (memLoad big m .word pa) (if big then 3 - i else i) = memByte m (pa + BitVec.ofNat 32 i).toNat := by
  obtain rfl | rfl | rfl | rfl : i = 0 ∨ i = 1 ∨ i = 2 ∨ i = 3 := by omega
  all_goals cases big <;> simp [memLoad, memAt, valueByte_append]

/-- A word is its bytes. -/
theorem eq_of_valueBytes {v w : Word} (big : Bool)
    (h : ∀ i, i < 4 → valueByte v (if big then 3 - i else i) = valueByte w (if big then 3 - i else i)) : v = w := by
  rw [← word_of_bytes v, ← word_of_bytes w]
  have h0 := h 0 (by omega)
  have h1 := h 1 (by omega)
  have h2 := h 2 (by omega)
  have h3 := h 3 (by omega)
  cases big <;> simp only [valueByte] at h0 h1 h2 h3 <;> simp_all

/-- A word loaded after a word stored at the same address. -/
theorem memLoad_memStore_word {m : List Host.Cell} (h : Memory.wf m = true) (big : Bool) (pa v : Word) :
    memLoad big (memStore big m .word pa v) .word pa = v :=
  eq_of_valueBytes big fun _ hi => by rw [valueByte_memLoad_word _ _ _ hi, memByte_memStore_word h _ _ _ hi]

/-! ## Writes that fail later -/

theorem valueByte_byteMask (big : Bool) (m : BitVec 4) {i : Nat} (h : i < 4) :
    valueByte (byteMask big m) (if big then 3 - i else i) = if m.getLsbD i then 0xFF#8 else 0#8 := by
  unfold byteMask
  obtain rfl | rfl | rfl | rfl : i = 0 ∨ i = 1 ∨ i = 2 ∨ i = 3 := by omega
  all_goals cases big <;> simp [valueByte_append]

theorem valueByte_merge (a b c : Word) {k : Nat} (h : k < 4) : valueByte ((a &&& c) ||| (b &&& ~~~c)) k =
    (valueByte a k &&& valueByte c k) ||| (valueByte b k &&& ~~~valueByte c k) := by
  ext j hj
  simp [valueByte, show 8 * k + j < 32 by omega]

/-- The bytes of a word some of whose bytes are replaced. -/
theorem valueByte_putBytes (big : Bool) (m : BitVec 4) (old w : Word) {i : Nat} (h : i < 4) :
    valueByte (putBytes big m old w) (if big then 3 - i else i) =
      if m.getLsbD i then valueByte old (if big then 3 - i else i) else valueByte w (if big then 3 - i else i) := by
  rw [putBytes, valueByte_merge _ _ _ (by split <;> omega), valueByte_byteMask big m h]
  cases m.getLsbD i
  · exact (congrArg (_ ||| ·) BitVec.and_allOnes).trans (by simp)
  · exact (congrArg (· ||| _) BitVec.and_allOnes).trans (by simp)

theorem undoIn_cons (big : Bool) (x y : StaleWord) (ys : List StaleWord) :
    undoIn big x (y :: ys) =
      if y.addr = x.addr then
        ({ y with old := putBytes big (undoIn big x ys).2 x.old y.old } :: (undoIn big x ys).1,
          (undoIn big x ys).2 &&& ~~~y.bytes)
      else (y :: (undoIn big x ys).1, (undoIn big x ys).2) := rfl

/-- Memory after a store is undone. -/
@[simp] theorem undoStore_mem (k : Nat) (x : StaleWord) (s : State) :
    (undoStore k x s).mem = memStore s.cfg.bigEndian s.mem .word x.addr
      (putBytes s.cfg.bigEndian (undoIn s.cfg.bigEndian x (s.stale.take k)).2 x.old
        (memLoad s.cfg.bigEndian s.mem .word x.addr)) := rfl

/-- The records after a store is undone. -/
@[simp] theorem undoStore_stale (k : Nat) (x : StaleWord) (s : State) :
    (undoStore k x s).stale = (undoIn s.cfg.bigEndian x (s.stale.take k)).1 ++
      { x with bytes := 0#4 } :: s.stale.drop (k + 1) := rfl

/-- Undoing a store drops no record. -/
theorem undoIn_length (big : Bool) (x : StaleWord) (ys : List StaleWord) :
    (undoIn big x ys).1.length = ys.length := by
  induction ys with
  | nil => rfl
  | cons y ys ih => rw [undoIn_cons]; split <;> simp [ih]

/-- The bytes left to undo are those of the store that no later store to the word wrote. -/
theorem undoIn_bytes (big : Bool) (x : StaleWord) (ys : List StaleWord) {i : Nat} (hi : i < 4) :
    (undoIn big x ys).2.getLsbD i = true ↔
      x.bytes.getLsbD i = true ∧ ∀ y ∈ ys, y.addr = x.addr → y.bytes.getLsbD i = false := by
  induction ys with
  | nil => simp [undoIn]
  | cons y ys ih =>
    rw [undoIn_cons]
    split
    · simp_all
      tauto
    · simp_all

/-- What a record says after an earlier store is undone: it is of the same store, and its older value follows in the bytes
of the undone store that no store between them wrote. -/
theorem undoIn_get (big : Bool) (x : StaleWord) {ys : List StaleWord} {j : Nat} {y : StaleWord} (h : ys[j]? = some y) :
    (undoIn big x ys).1[j]? = some
      (if y.addr = x.addr then { y with old := putBytes big (undoIn big x (ys.drop (j + 1))).2 x.old y.old } else y) := by
  induction ys generalizing j with
  | nil => simp at h
  | cons w ys ih =>
    rw [undoIn_cons]
    cases j with
    | zero =>
      obtain rfl : w = y := by simpa using h
      split <;> simp
    | succ j =>
      have := ih (j := j) (by simpa using h)
      split <;> simpa using this

/-- Undoing a store keeps the canonical form. -/
theorem undoStore_wf {s : State} (h : Memory.wf s.mem = true) (k : Nat) (x : StaleWord) :
    Memory.wf (undoStore k x s).mem = true := by
  rw [undoStore_mem]
  exact memStore_wf h _ _ _ _

/-- A byte of the word after a store to it is undone. -/
theorem memByte_undoStore {s : State} (h : Memory.wf s.mem = true) (k : Nat) (x : StaleWord) {i : Nat} (hi : i < 4) :
    memByte (undoStore k x s).mem (x.addr + BitVec.ofNat 32 i).toNat =
      if (undoIn s.cfg.bigEndian x (s.stale.take k)).2.getLsbD i
      then valueByte x.old (if s.cfg.bigEndian then 3 - i else i)
      else memByte s.mem (x.addr + BitVec.ofNat 32 i).toNat := by
  rw [undoStore_mem, memByte_memStore_word h _ _ _ hi, valueByte_putBytes _ _ _ _ hi, valueByte_memLoad_word _ _ _ hi]

/-- Any other byte. -/
theorem memByte_undoStore_other {s : State} (h : Memory.wf s.mem = true) (k : Nat) (x : StaleWord) {a : Nat}
    (ha : ¬Width.word.covers x.addr a) : memByte (undoStore k x s).mem a = memByte s.mem a := by
  rw [undoStore_mem]
  exact memByte_memStore_other h _ _ _ _ ha

/-- What a late report of a failed write can do: it sets the pending bus error alone, or undoes the store of its record
too, which is not known to be in memory. -/
theorem lateWriteFails_cases (k : Nat) (s : State) :
    lateWriteFails k s = { s with busErrorPending := true } ∨
    ∃ x, s.stale[k]? = some x ∧ x.stage ≠ .inMemory ∧
      lateWriteFails k s = { undoStore k x s with busErrorPending := true } := by
  unfold lateWriteFails
  cases hx : s.stale[k]? with
  | none => exact .inl rfl
  | some x =>
    dsimp only
    split
    · exact .inl rfl
    · rename_i hn
      exact .inr ⟨x, rfl, fun e => hn (.inl e), rfl⟩

end Sys2Proof.Machine
end

