-- ==== Sys2Proof/Laws/State.lean ====
section
/-! SUPPORT. One lemma for each field of the state after each of the record updates of the machine, true by unfolding, so
that no proof unfolds an update. -/

namespace Sys2Proof.Machine

/-! ## `writeR` -/

@[simp] theorem writeR_cfg (s : State) (r : GReg) (v : Word) : (s.writeR r v).cfg = s.cfg := rfl
@[simp] theorem writeR_pc (s : State) (r : GReg) (v : Word) : (s.writeR r v).pc = s.pc := rfl
@[simp] theorem writeR_nextPc (s : State) (r : GReg) (v : Word) : (s.writeR r v).nextPc = s.nextPc := rfl
@[simp] theorem writeR_ext (s : State) (r : GReg) (v : Word) : (s.writeR r v).ext = s.ext := rfl
@[simp] theorem writeR_signal (s : State) (r : GReg) (v : Word) : (s.writeR r v).signal = s.signal := rfl
@[simp] theorem writeR_gpr (s : State) (r : GReg) (v : Word) : (s.writeR r v).gpr = setGpr s.gpr r v := rfl
@[simp] theorem writeR_br (s : State) (r : GReg) (v : Word) : (s.writeR r v).br = s.br := rfl
@[simp] theorem writeR_slrValid (s : State) (r : GReg) (v : Word) : (s.writeR r v).slrValid = (s.slrValid || r == 63#6) := rfl
@[simp] theorem writeR_psw (s : State) (r : GReg) (v : Word) : (s.writeR r v).psw = s.psw := rfl
@[simp] theorem writeR_savedPsw (s : State) (r : GReg) (v : Word) : (s.writeR r v).savedPsw = s.savedPsw := rfl
@[simp] theorem writeR_savedPc (s : State) (r : GReg) (v : Word) : (s.writeR r v).savedPc = s.savedPc := rfl
@[simp] theorem writeR_savedSavedPsw (s : State) (r : GReg) (v : Word) : (s.writeR r v).savedSavedPsw = s.savedSavedPsw := rfl
@[simp] theorem writeR_savedSavedPc (s : State) (r : GReg) (v : Word) : (s.writeR r v).savedSavedPc = s.savedSavedPc := rfl
@[simp] theorem writeR_handlerPc (s : State) (r : GReg) (v : Word) : (s.writeR r v).handlerPc = s.handlerPc := rfl
@[simp] theorem writeR_excauseno (s : State) (r : GReg) (v : Word) : (s.writeR r v).excauseno = s.excauseno := rfl
@[simp] theorem writeR_exaddress (s : State) (r : GReg) (v : Word) : (s.writeR r v).exaddress = s.exaddress := rfl
@[simp] theorem writeR_scratch (s : State) (r : GReg) (v : Word) : (s.writeR r v).scratch = s.scratch := rfl
@[simp] theorem writeR_partition (s : State) (r : GReg) (v : Word) : (s.writeR r v).partition = s.partition := rfl
@[simp] theorem writeR_tlb (s : State) (r : GReg) (v : Word) : (s.writeR r v).tlb = s.tlb := rfl
@[simp] theorem writeR_scu (s : State) (r : GReg) (v : Word) : (s.writeR r v).scu = s.scu := rfl
@[simp] theorem writeR_dbreak (s : State) (r : GReg) (v : Word) : (s.writeR r v).dbreak = s.dbreak := rfl
@[simp] theorem writeR_ibreak (s : State) (r : GReg) (v : Word) : (s.writeR r v).ibreak = s.ibreak := rfl
@[simp] theorem writeR_pm (s : State) (r : GReg) (v : Word) : (s.writeR r v).pm = s.pm := rfl
@[simp] theorem writeR_sdi (s : State) (r : GReg) (v : Word) : (s.writeR r v).sdi = s.sdi := rfl
@[simp] theorem writeR_intc (s : State) (r : GReg) (v : Word) : (s.writeR r v).intc = s.intc := rfl
@[simp] theorem writeR_timers (s : State) (r : GReg) (v : Word) : (s.writeR r v).timers = s.timers := rfl
@[simp] theorem writeR_dsu (s : State) (r : GReg) (v : Word) : (s.writeR r v).dsu = s.dsu := rfl
@[simp] theorem writeR_busErrorPending (s : State) (r : GReg) (v : Word) : (s.writeR r v).busErrorPending = s.busErrorPending := rfl
@[simp] theorem writeR_coreIdle (s : State) (r : GReg) (v : Word) : (s.writeR r v).coreIdle = s.coreIdle := rfl
@[simp] theorem writeR_waiting (s : State) (r : GReg) (v : Word) : (s.writeR r v).waiting = s.waiting := rfl
@[simp] theorem writeR_cregStored (s : State) (r : GReg) (v : Word) : (s.writeR r v).cregStored = s.cregStored := rfl
@[simp] theorem writeR_mem (s : State) (r : GReg) (v : Word) : (s.writeR r v).mem = s.mem := rfl
@[simp] theorem writeR_stale (s : State) (r : GReg) (v : Word) : (s.writeR r v).stale = s.stale := rfl
@[simp] theorem writeR_env (s : State) (r : GReg) (v : Word) : (s.writeR r v).env = s.env := rfl
@[simp] theorem writeR_free (s : State) (r : GReg) (v : Word) : (s.writeR r v).free = s.free := rfl

/-! ## `writeB` -/

@[simp] theorem writeB_cfg (s : State) (c : BReg) (v : Bool) : (s.writeB c v).cfg = s.cfg := rfl
@[simp] theorem writeB_pc (s : State) (c : BReg) (v : Bool) : (s.writeB c v).pc = s.pc := rfl
@[simp] theorem writeB_nextPc (s : State) (c : BReg) (v : Bool) : (s.writeB c v).nextPc = s.nextPc := rfl
@[simp] theorem writeB_ext (s : State) (c : BReg) (v : Bool) : (s.writeB c v).ext = s.ext := rfl
@[simp] theorem writeB_signal (s : State) (c : BReg) (v : Bool) : (s.writeB c v).signal = s.signal := rfl
@[simp] theorem writeB_gpr (s : State) (c : BReg) (v : Bool) : (s.writeB c v).gpr = s.gpr := rfl
@[simp] theorem writeB_br (s : State) (c : BReg) (v : Bool) : (s.writeB c v).br = setBr s.br c v := rfl
@[simp] theorem writeB_slrValid (s : State) (c : BReg) (v : Bool) : (s.writeB c v).slrValid = s.slrValid := rfl
@[simp] theorem writeB_psw (s : State) (c : BReg) (v : Bool) : (s.writeB c v).psw = s.psw := rfl
@[simp] theorem writeB_savedPsw (s : State) (c : BReg) (v : Bool) : (s.writeB c v).savedPsw = s.savedPsw := rfl
@[simp] theorem writeB_savedPc (s : State) (c : BReg) (v : Bool) : (s.writeB c v).savedPc = s.savedPc := rfl
@[simp] theorem writeB_savedSavedPsw (s : State) (c : BReg) (v : Bool) : (s.writeB c v).savedSavedPsw = s.savedSavedPsw := rfl
@[simp] theorem writeB_savedSavedPc (s : State) (c : BReg) (v : Bool) : (s.writeB c v).savedSavedPc = s.savedSavedPc := rfl
@[simp] theorem writeB_handlerPc (s : State) (c : BReg) (v : Bool) : (s.writeB c v).handlerPc = s.handlerPc := rfl
@[simp] theorem writeB_excauseno (s : State) (c : BReg) (v : Bool) : (s.writeB c v).excauseno = s.excauseno := rfl
@[simp] theorem writeB_exaddress (s : State) (c : BReg) (v : Bool) : (s.writeB c v).exaddress = s.exaddress := rfl
@[simp] theorem writeB_scratch (s : State) (c : BReg) (v : Bool) : (s.writeB c v).scratch = s.scratch := rfl
@[simp] theorem writeB_partition (s : State) (c : BReg) (v : Bool) : (s.writeB c v).partition = s.partition := rfl
@[simp] theorem writeB_tlb (s : State) (c : BReg) (v : Bool) : (s.writeB c v).tlb = s.tlb := rfl
@[simp] theorem writeB_scu (s : State) (c : BReg) (v : Bool) : (s.writeB c v).scu = s.scu := rfl
@[simp] theorem writeB_dbreak (s : State) (c : BReg) (v : Bool) : (s.writeB c v).dbreak = s.dbreak := rfl
@[simp] theorem writeB_ibreak (s : State) (c : BReg) (v : Bool) : (s.writeB c v).ibreak = s.ibreak := rfl
@[simp] theorem writeB_pm (s : State) (c : BReg) (v : Bool) : (s.writeB c v).pm = s.pm := rfl
@[simp] theorem writeB_sdi (s : State) (c : BReg) (v : Bool) : (s.writeB c v).sdi = s.sdi := rfl
@[simp] theorem writeB_intc (s : State) (c : BReg) (v : Bool) : (s.writeB c v).intc = s.intc := rfl
@[simp] theorem writeB_timers (s : State) (c : BReg) (v : Bool) : (s.writeB c v).timers = s.timers := rfl
@[simp] theorem writeB_dsu (s : State) (c : BReg) (v : Bool) : (s.writeB c v).dsu = s.dsu := rfl
@[simp] theorem writeB_busErrorPending (s : State) (c : BReg) (v : Bool) : (s.writeB c v).busErrorPending = s.busErrorPending := rfl
@[simp] theorem writeB_coreIdle (s : State) (c : BReg) (v : Bool) : (s.writeB c v).coreIdle = s.coreIdle := rfl
@[simp] theorem writeB_waiting (s : State) (c : BReg) (v : Bool) : (s.writeB c v).waiting = s.waiting := rfl
@[simp] theorem writeB_cregStored (s : State) (c : BReg) (v : Bool) : (s.writeB c v).cregStored = s.cregStored := rfl
@[simp] theorem writeB_mem (s : State) (c : BReg) (v : Bool) : (s.writeB c v).mem = s.mem := rfl
@[simp] theorem writeB_stale (s : State) (c : BReg) (v : Bool) : (s.writeB c v).stale = s.stale := rfl
@[simp] theorem writeB_env (s : State) (c : BReg) (v : Bool) : (s.writeB c v).env = s.env := rfl
@[simp] theorem writeB_free (s : State) (c : BReg) (v : Bool) : (s.writeB c v).free = s.free := rfl

/-! ## `jump` -/

@[simp] theorem jump_cfg (s : State) (w : Word) : (s.jump w).cfg = s.cfg := rfl
@[simp] theorem jump_pc (s : State) (w : Word) : (s.jump w).pc = s.pc := rfl
@[simp] theorem jump_nextPc (s : State) (w : Word) : (s.jump w).nextPc = w := rfl
@[simp] theorem jump_ext (s : State) (w : Word) : (s.jump w).ext = s.ext := rfl
@[simp] theorem jump_signal (s : State) (w : Word) : (s.jump w).signal = s.signal := rfl
@[simp] theorem jump_gpr (s : State) (w : Word) : (s.jump w).gpr = s.gpr := rfl
@[simp] theorem jump_br (s : State) (w : Word) : (s.jump w).br = s.br := rfl
@[simp] theorem jump_slrValid (s : State) (w : Word) : (s.jump w).slrValid = s.slrValid := rfl
@[simp] theorem jump_psw (s : State) (w : Word) : (s.jump w).psw = s.psw := rfl
@[simp] theorem jump_savedPsw (s : State) (w : Word) : (s.jump w).savedPsw = s.savedPsw := rfl
@[simp] theorem jump_savedPc (s : State) (w : Word) : (s.jump w).savedPc = s.savedPc := rfl
@[simp] theorem jump_savedSavedPsw (s : State) (w : Word) : (s.jump w).savedSavedPsw = s.savedSavedPsw := rfl
@[simp] theorem jump_savedSavedPc (s : State) (w : Word) : (s.jump w).savedSavedPc = s.savedSavedPc := rfl
@[simp] theorem jump_handlerPc (s : State) (w : Word) : (s.jump w).handlerPc = s.handlerPc := rfl
@[simp] theorem jump_excauseno (s : State) (w : Word) : (s.jump w).excauseno = s.excauseno := rfl
@[simp] theorem jump_exaddress (s : State) (w : Word) : (s.jump w).exaddress = s.exaddress := rfl
@[simp] theorem jump_scratch (s : State) (w : Word) : (s.jump w).scratch = s.scratch := rfl
@[simp] theorem jump_partition (s : State) (w : Word) : (s.jump w).partition = s.partition := rfl
@[simp] theorem jump_tlb (s : State) (w : Word) : (s.jump w).tlb = s.tlb := rfl
@[simp] theorem jump_scu (s : State) (w : Word) : (s.jump w).scu = s.scu := rfl
@[simp] theorem jump_dbreak (s : State) (w : Word) : (s.jump w).dbreak = s.dbreak := rfl
@[simp] theorem jump_ibreak (s : State) (w : Word) : (s.jump w).ibreak = s.ibreak := rfl
@[simp] theorem jump_pm (s : State) (w : Word) : (s.jump w).pm = s.pm := rfl
@[simp] theorem jump_sdi (s : State) (w : Word) : (s.jump w).sdi = s.sdi := rfl
@[simp] theorem jump_intc (s : State) (w : Word) : (s.jump w).intc = s.intc := rfl
@[simp] theorem jump_timers (s : State) (w : Word) : (s.jump w).timers = s.timers := rfl
@[simp] theorem jump_dsu (s : State) (w : Word) : (s.jump w).dsu = s.dsu := rfl
@[simp] theorem jump_busErrorPending (s : State) (w : Word) : (s.jump w).busErrorPending = s.busErrorPending := rfl
@[simp] theorem jump_coreIdle (s : State) (w : Word) : (s.jump w).coreIdle = s.coreIdle := rfl
@[simp] theorem jump_waiting (s : State) (w : Word) : (s.jump w).waiting = s.waiting := rfl
@[simp] theorem jump_cregStored (s : State) (w : Word) : (s.jump w).cregStored = s.cregStored := rfl
@[simp] theorem jump_mem (s : State) (w : Word) : (s.jump w).mem = s.mem := rfl
@[simp] theorem jump_stale (s : State) (w : Word) : (s.jump w).stale = s.stale := rfl
@[simp] theorem jump_env (s : State) (w : Word) : (s.jump w).env = s.env := rfl
@[simp] theorem jump_free (s : State) (w : Word) : (s.jump w).free = s.free := rfl

/-! ## `setSdi` -/

@[simp] theorem setSdi_cfg (s : State) (i : Fin 4) (p : SdiPort) : (s.setSdi i p).cfg = s.cfg := rfl
@[simp] theorem setSdi_pc (s : State) (i : Fin 4) (p : SdiPort) : (s.setSdi i p).pc = s.pc := rfl
@[simp] theorem setSdi_nextPc (s : State) (i : Fin 4) (p : SdiPort) : (s.setSdi i p).nextPc = s.nextPc := rfl
@[simp] theorem setSdi_ext (s : State) (i : Fin 4) (p : SdiPort) : (s.setSdi i p).ext = s.ext := rfl
@[simp] theorem setSdi_signal (s : State) (i : Fin 4) (p : SdiPort) : (s.setSdi i p).signal = s.signal := rfl
@[simp] theorem setSdi_gpr (s : State) (i : Fin 4) (p : SdiPort) : (s.setSdi i p).gpr = s.gpr := rfl
@[simp] theorem setSdi_br (s : State) (i : Fin 4) (p : SdiPort) : (s.setSdi i p).br = s.br := rfl
@[simp] theorem setSdi_slrValid (s : State) (i : Fin 4) (p : SdiPort) : (s.setSdi i p).slrValid = s.slrValid := rfl
@[simp] theorem setSdi_psw (s : State) (i : Fin 4) (p : SdiPort) : (s.setSdi i p).psw = s.psw := rfl
@[simp] theorem setSdi_savedPsw (s : State) (i : Fin 4) (p : SdiPort) : (s.setSdi i p).savedPsw = s.savedPsw := rfl
@[simp] theorem setSdi_savedPc (s : State) (i : Fin 4) (p : SdiPort) : (s.setSdi i p).savedPc = s.savedPc := rfl
@[simp] theorem setSdi_savedSavedPsw (s : State) (i : Fin 4) (p : SdiPort) : (s.setSdi i p).savedSavedPsw = s.savedSavedPsw := rfl
@[simp] theorem setSdi_savedSavedPc (s : State) (i : Fin 4) (p : SdiPort) : (s.setSdi i p).savedSavedPc = s.savedSavedPc := rfl
@[simp] theorem setSdi_handlerPc (s : State) (i : Fin 4) (p : SdiPort) : (s.setSdi i p).handlerPc = s.handlerPc := rfl
@[simp] theorem setSdi_excauseno (s : State) (i : Fin 4) (p : SdiPort) : (s.setSdi i p).excauseno = s.excauseno := rfl
@[simp] theorem setSdi_exaddress (s : State) (i : Fin 4) (p : SdiPort) : (s.setSdi i p).exaddress = s.exaddress := rfl
@[simp] theorem setSdi_scratch (s : State) (i : Fin 4) (p : SdiPort) : (s.setSdi i p).scratch = s.scratch := rfl
@[simp] theorem setSdi_partition (s : State) (i : Fin 4) (p : SdiPort) : (s.setSdi i p).partition = s.partition := rfl
@[simp] theorem setSdi_tlb (s : State) (i : Fin 4) (p : SdiPort) : (s.setSdi i p).tlb = s.tlb := rfl
@[simp] theorem setSdi_scu (s : State) (i : Fin 4) (p : SdiPort) : (s.setSdi i p).scu = s.scu := rfl
@[simp] theorem setSdi_dbreak (s : State) (i : Fin 4) (p : SdiPort) : (s.setSdi i p).dbreak = s.dbreak := rfl
@[simp] theorem setSdi_ibreak (s : State) (i : Fin 4) (p : SdiPort) : (s.setSdi i p).ibreak = s.ibreak := rfl
@[simp] theorem setSdi_pm (s : State) (i : Fin 4) (p : SdiPort) : (s.setSdi i p).pm = s.pm := rfl
@[simp] theorem setSdi_sdi (s : State) (i : Fin 4) (p : SdiPort) : (s.setSdi i p).sdi = s.sdi.set i p := rfl
@[simp] theorem setSdi_intc (s : State) (i : Fin 4) (p : SdiPort) : (s.setSdi i p).intc = s.intc := rfl
@[simp] theorem setSdi_timers (s : State) (i : Fin 4) (p : SdiPort) : (s.setSdi i p).timers = s.timers := rfl
@[simp] theorem setSdi_dsu (s : State) (i : Fin 4) (p : SdiPort) : (s.setSdi i p).dsu = s.dsu := rfl
@[simp] theorem setSdi_busErrorPending (s : State) (i : Fin 4) (p : SdiPort) : (s.setSdi i p).busErrorPending = s.busErrorPending := rfl
@[simp] theorem setSdi_coreIdle (s : State) (i : Fin 4) (p : SdiPort) : (s.setSdi i p).coreIdle = s.coreIdle := rfl
@[simp] theorem setSdi_waiting (s : State) (i : Fin 4) (p : SdiPort) : (s.setSdi i p).waiting = s.waiting := rfl
@[simp] theorem setSdi_cregStored (s : State) (i : Fin 4) (p : SdiPort) : (s.setSdi i p).cregStored = s.cregStored := rfl
@[simp] theorem setSdi_mem (s : State) (i : Fin 4) (p : SdiPort) : (s.setSdi i p).mem = s.mem := rfl
@[simp] theorem setSdi_stale (s : State) (i : Fin 4) (p : SdiPort) : (s.setSdi i p).stale = s.stale := rfl
@[simp] theorem setSdi_env (s : State) (i : Fin 4) (p : SdiPort) : (s.setSdi i p).env = s.env := rfl
@[simp] theorem setSdi_free (s : State) (i : Fin 4) (p : SdiPort) : (s.setSdi i p).free = s.free := rfl

/-! ## `withNextPc` -/

@[simp] theorem withNextPc_cfg (s : State) (n : Nat) : (s.withNextPc n).cfg = s.cfg := rfl
@[simp] theorem withNextPc_pc (s : State) (n : Nat) : (s.withNextPc n).pc = s.pc := rfl
@[simp] theorem withNextPc_nextPc (s : State) (n : Nat) : (s.withNextPc n).nextPc = s.pc + BitVec.ofNat 32 (4 * n) := rfl
@[simp] theorem withNextPc_ext (s : State) (n : Nat) : (s.withNextPc n).ext = s.ext := rfl
@[simp] theorem withNextPc_signal (s : State) (n : Nat) : (s.withNextPc n).signal = s.signal := rfl
@[simp] theorem withNextPc_gpr (s : State) (n : Nat) : (s.withNextPc n).gpr = s.gpr := rfl
@[simp] theorem withNextPc_br (s : State) (n : Nat) : (s.withNextPc n).br = s.br := rfl
@[simp] theorem withNextPc_slrValid (s : State) (n : Nat) : (s.withNextPc n).slrValid = s.slrValid := rfl
@[simp] theorem withNextPc_psw (s : State) (n : Nat) : (s.withNextPc n).psw = s.psw := rfl
@[simp] theorem withNextPc_savedPsw (s : State) (n : Nat) : (s.withNextPc n).savedPsw = s.savedPsw := rfl
@[simp] theorem withNextPc_savedPc (s : State) (n : Nat) : (s.withNextPc n).savedPc = s.savedPc := rfl
@[simp] theorem withNextPc_savedSavedPsw (s : State) (n : Nat) : (s.withNextPc n).savedSavedPsw = s.savedSavedPsw := rfl
@[simp] theorem withNextPc_savedSavedPc (s : State) (n : Nat) : (s.withNextPc n).savedSavedPc = s.savedSavedPc := rfl
@[simp] theorem withNextPc_handlerPc (s : State) (n : Nat) : (s.withNextPc n).handlerPc = s.handlerPc := rfl
@[simp] theorem withNextPc_excauseno (s : State) (n : Nat) : (s.withNextPc n).excauseno = s.excauseno := rfl
@[simp] theorem withNextPc_exaddress (s : State) (n : Nat) : (s.withNextPc n).exaddress = s.exaddress := rfl
@[simp] theorem withNextPc_scratch (s : State) (n : Nat) : (s.withNextPc n).scratch = s.scratch := rfl
@[simp] theorem withNextPc_partition (s : State) (n : Nat) : (s.withNextPc n).partition = s.partition := rfl
@[simp] theorem withNextPc_tlb (s : State) (n : Nat) : (s.withNextPc n).tlb = s.tlb := rfl
@[simp] theorem withNextPc_scu (s : State) (n : Nat) : (s.withNextPc n).scu = s.scu := rfl
@[simp] theorem withNextPc_dbreak (s : State) (n : Nat) : (s.withNextPc n).dbreak = s.dbreak := rfl
@[simp] theorem withNextPc_ibreak (s : State) (n : Nat) : (s.withNextPc n).ibreak = s.ibreak := rfl
@[simp] theorem withNextPc_pm (s : State) (n : Nat) : (s.withNextPc n).pm = s.pm := rfl
@[simp] theorem withNextPc_sdi (s : State) (n : Nat) : (s.withNextPc n).sdi = s.sdi := rfl
@[simp] theorem withNextPc_intc (s : State) (n : Nat) : (s.withNextPc n).intc = s.intc := rfl
@[simp] theorem withNextPc_timers (s : State) (n : Nat) : (s.withNextPc n).timers = s.timers := rfl
@[simp] theorem withNextPc_dsu (s : State) (n : Nat) : (s.withNextPc n).dsu = s.dsu := rfl
@[simp] theorem withNextPc_busErrorPending (s : State) (n : Nat) : (s.withNextPc n).busErrorPending = s.busErrorPending := rfl
@[simp] theorem withNextPc_coreIdle (s : State) (n : Nat) : (s.withNextPc n).coreIdle = s.coreIdle := rfl
@[simp] theorem withNextPc_waiting (s : State) (n : Nat) : (s.withNextPc n).waiting = s.waiting := rfl
@[simp] theorem withNextPc_cregStored (s : State) (n : Nat) : (s.withNextPc n).cregStored = s.cregStored := rfl
@[simp] theorem withNextPc_mem (s : State) (n : Nat) : (s.withNextPc n).mem = s.mem := rfl
@[simp] theorem withNextPc_stale (s : State) (n : Nat) : (s.withNextPc n).stale = s.stale := rfl
@[simp] theorem withNextPc_env (s : State) (n : Nat) : (s.withNextPc n).env = s.env := rfl
@[simp] theorem withNextPc_free (s : State) (n : Nat) : (s.withNextPc n).free = s.free := rfl

/-! ## `trapEntry` -/

@[simp] theorem trapEntry_cfg (x : Raise) (s : State) : (trapEntry x s).cfg = s.cfg := rfl
@[simp] theorem trapEntry_pc (x : Raise) (s : State) : (trapEntry x s).pc = s.pc := rfl
@[simp] theorem trapEntry_nextPc (x : Raise) (s : State) : (trapEntry x s).nextPc = toPc s.handlerPc := rfl
@[simp] theorem trapEntry_ext (x : Raise) (s : State) : (trapEntry x s).ext = s.ext := rfl
@[simp] theorem trapEntry_signal (x : Raise) (s : State) : (trapEntry x s).signal = .raised x.exc := rfl
@[simp] theorem trapEntry_gpr (x : Raise) (s : State) : (trapEntry x s).gpr = s.gpr := rfl
@[simp] theorem trapEntry_br (x : Raise) (s : State) : (trapEntry x s).br = s.br := rfl
@[simp] theorem trapEntry_slrValid (x : Raise) (s : State) : (trapEntry x s).slrValid = false := rfl
@[simp] theorem trapEntry_psw (x : Raise) (s : State) : (trapEntry x s).psw = trapPsw s.psw := rfl
@[simp] theorem trapEntry_savedPsw (x : Raise) (s : State) : (trapEntry x s).savedPsw = .of s.psw := rfl
@[simp] theorem trapEntry_savedPc (x : Raise) (s : State) : (trapEntry x s).savedPc = .of s.pc := rfl
@[simp] theorem trapEntry_savedSavedPsw (x : Raise) (s : State) : (trapEntry x s).savedSavedPsw = s.savedSavedPsw := rfl
@[simp] theorem trapEntry_savedSavedPc (x : Raise) (s : State) : (trapEntry x s).savedSavedPc = s.savedSavedPc := rfl
@[simp] theorem trapEntry_handlerPc (x : Raise) (s : State) : (trapEntry x s).handlerPc = s.handlerPc := rfl
@[simp] theorem trapEntry_excauseno (x : Raise) (s : State) : (trapEntry x s).excauseno = BitVec.ofNat 5 x.exc.number := rfl
@[simp] theorem trapEntry_exaddress (x : Raise) (s : State) : (trapEntry x s).exaddress = exceptAddress x.exc x.value := rfl
@[simp] theorem trapEntry_scratch (x : Raise) (s : State) : (trapEntry x s).scratch = s.scratch := rfl
@[simp] theorem trapEntry_partition (x : Raise) (s : State) : (trapEntry x s).partition = s.partition := rfl
@[simp] theorem trapEntry_tlb (x : Raise) (s : State) : (trapEntry x s).tlb = { s.tlb with excause := x.tlb.getD s.tlb.excause } := rfl
@[simp] theorem trapEntry_scu (x : Raise) (s : State) : (trapEntry x s).scu = s.scu := rfl
@[simp] theorem trapEntry_dbreak (x : Raise) (s : State) : (trapEntry x s).dbreak = s.dbreak := rfl
@[simp] theorem trapEntry_ibreak (x : Raise) (s : State) : (trapEntry x s).ibreak = s.ibreak := rfl
@[simp] theorem trapEntry_pm (x : Raise) (s : State) : (trapEntry x s).pm = s.pm := rfl
@[simp] theorem trapEntry_sdi (x : Raise) (s : State) : (trapEntry x s).sdi = s.sdi := rfl
@[simp] theorem trapEntry_intc (x : Raise) (s : State) : (trapEntry x s).intc = s.intc := rfl
@[simp] theorem trapEntry_timers (x : Raise) (s : State) : (trapEntry x s).timers = s.timers := rfl
@[simp] theorem trapEntry_dsu (x : Raise) (s : State) : (trapEntry x s).dsu = s.dsu := rfl
@[simp] theorem trapEntry_busErrorPending (x : Raise) (s : State) : (trapEntry x s).busErrorPending = (s.busErrorPending && x.exc != .stbusDcError) := rfl
@[simp] theorem trapEntry_coreIdle (x : Raise) (s : State) : (trapEntry x s).coreIdle = s.coreIdle := rfl
@[simp] theorem trapEntry_waiting (x : Raise) (s : State) : (trapEntry x s).waiting = s.waiting := rfl
@[simp] theorem trapEntry_cregStored (x : Raise) (s : State) : (trapEntry x s).cregStored = s.cregStored := rfl
@[simp] theorem trapEntry_mem (x : Raise) (s : State) : (trapEntry x s).mem = s.mem := rfl
@[simp] theorem trapEntry_stale (x : Raise) (s : State) : (trapEntry x s).stale = s.stale := rfl
@[simp] theorem trapEntry_env (x : Raise) (s : State) : (trapEntry x s).env = s.env := rfl
@[simp] theorem trapEntry_free (x : Raise) (s : State) : (trapEntry x s).free = s.free := rfl

/-! ## `debugEntry` -/

@[simp] theorem debugEntry_cfg (s : State) : (debugEntry s).cfg = s.cfg := rfl
@[simp] theorem debugEntry_pc (s : State) : (debugEntry s).pc = s.pc := rfl
@[simp] theorem debugEntry_nextPc (s : State) : (debugEntry s).nextPc = toPc s.cfg.debugHandlerPc := rfl
@[simp] theorem debugEntry_ext (s : State) : (debugEntry s).ext = s.ext := rfl
@[simp] theorem debugEntry_signal (s : State) : (debugEntry s).signal = .done := rfl
@[simp] theorem debugEntry_gpr (s : State) : (debugEntry s).gpr = s.gpr := rfl
@[simp] theorem debugEntry_br (s : State) : (debugEntry s).br = s.br := rfl
@[simp] theorem debugEntry_slrValid (s : State) : (debugEntry s).slrValid = false := rfl
@[simp] theorem debugEntry_psw (s : State) : (debugEntry s).psw = debugPsw s.psw := rfl
@[simp] theorem debugEntry_savedPsw (s : State) : (debugEntry s).savedPsw = .of s.psw := rfl
@[simp] theorem debugEntry_savedPc (s : State) : (debugEntry s).savedPc = .of s.pc := rfl
@[simp] theorem debugEntry_savedSavedPsw (s : State) : (debugEntry s).savedSavedPsw = .of s.savedPsw.value := rfl
@[simp] theorem debugEntry_savedSavedPc (s : State) : (debugEntry s).savedSavedPc = .of s.savedPc.value := rfl
@[simp] theorem debugEntry_handlerPc (s : State) : (debugEntry s).handlerPc = s.handlerPc := rfl
@[simp] theorem debugEntry_excauseno (s : State) : (debugEntry s).excauseno = s.excauseno := rfl
@[simp] theorem debugEntry_exaddress (s : State) : (debugEntry s).exaddress = s.exaddress := rfl
@[simp] theorem debugEntry_scratch (s : State) : (debugEntry s).scratch = s.scratch := rfl
@[simp] theorem debugEntry_partition (s : State) : (debugEntry s).partition = s.partition := rfl
@[simp] theorem debugEntry_tlb (s : State) : (debugEntry s).tlb = s.tlb := rfl
@[simp] theorem debugEntry_scu (s : State) : (debugEntry s).scu = s.scu := rfl
@[simp] theorem debugEntry_dbreak (s : State) : (debugEntry s).dbreak = s.dbreak := rfl
@[simp] theorem debugEntry_ibreak (s : State) : (debugEntry s).ibreak = s.ibreak := rfl
@[simp] theorem debugEntry_pm (s : State) : (debugEntry s).pm = s.pm := rfl
@[simp] theorem debugEntry_sdi (s : State) : (debugEntry s).sdi = s.sdi := rfl
@[simp] theorem debugEntry_intc (s : State) : (debugEntry s).intc = s.intc := rfl
@[simp] theorem debugEntry_timers (s : State) : (debugEntry s).timers = s.timers := rfl
@[simp] theorem debugEntry_dsu (s : State) : (debugEntry s).dsu = { s.dsu with irqPending := false } := rfl
@[simp] theorem debugEntry_busErrorPending (s : State) : (debugEntry s).busErrorPending = s.busErrorPending := rfl
@[simp] theorem debugEntry_coreIdle (s : State) : (debugEntry s).coreIdle = s.coreIdle := rfl
@[simp] theorem debugEntry_waiting (s : State) : (debugEntry s).waiting = s.waiting := rfl
@[simp] theorem debugEntry_cregStored (s : State) : (debugEntry s).cregStored = s.cregStored := rfl
@[simp] theorem debugEntry_mem (s : State) : (debugEntry s).mem = s.mem := rfl
@[simp] theorem debugEntry_stale (s : State) : (debugEntry s).stale = s.stale := rfl
@[simp] theorem debugEntry_env (s : State) : (debugEntry s).env = s.env := rfl
@[simp] theorem debugEntry_free (s : State) : (debugEntry s).free = s.free := rfl

/-! ## `returnFromTrap` -/

@[simp] theorem returnFromTrap_cfg (s : State) : (returnFromTrap s).cfg = s.cfg := rfl
@[simp] theorem returnFromTrap_pc (s : State) : (returnFromTrap s).pc = s.pc := rfl
@[simp] theorem returnFromTrap_nextPc (s : State) : (returnFromTrap s).nextPc = toPc (rfiUse s.free 0 s.savedPc) := rfl
@[simp] theorem returnFromTrap_ext (s : State) : (returnFromTrap s).ext = s.ext := rfl
@[simp] theorem returnFromTrap_signal (s : State) : (returnFromTrap s).signal = s.signal := rfl
@[simp] theorem returnFromTrap_gpr (s : State) : (returnFromTrap s).gpr = s.gpr := rfl
@[simp] theorem returnFromTrap_br (s : State) : (returnFromTrap s).br = s.br := rfl
@[simp] theorem returnFromTrap_slrValid (s : State) : (returnFromTrap s).slrValid = s.slrValid := rfl
@[simp] theorem returnFromTrap_psw (s : State) : (returnFromTrap s).psw = pswWrite s.psw (rfiUse s.free 1 s.savedPsw) := rfl
@[simp] theorem returnFromTrap_savedPsw (s : State) : (returnFromTrap s).savedPsw = .of (rfiUse s.free 3 s.savedSavedPsw) := rfl
@[simp] theorem returnFromTrap_savedPc (s : State) : (returnFromTrap s).savedPc = .of (rfiUse s.free 2 s.savedSavedPc) := rfl
@[simp] theorem returnFromTrap_savedSavedPsw (s : State) : (returnFromTrap s).savedSavedPsw = s.savedSavedPsw := rfl
@[simp] theorem returnFromTrap_savedSavedPc (s : State) : (returnFromTrap s).savedSavedPc = s.savedSavedPc := rfl
@[simp] theorem returnFromTrap_handlerPc (s : State) : (returnFromTrap s).handlerPc = s.handlerPc := rfl
@[simp] theorem returnFromTrap_excauseno (s : State) : (returnFromTrap s).excauseno = s.excauseno := rfl
@[simp] theorem returnFromTrap_exaddress (s : State) : (returnFromTrap s).exaddress = s.exaddress := rfl
@[simp] theorem returnFromTrap_scratch (s : State) : (returnFromTrap s).scratch = s.scratch := rfl
@[simp] theorem returnFromTrap_partition (s : State) : (returnFromTrap s).partition = s.partition := rfl
@[simp] theorem returnFromTrap_tlb (s : State) : (returnFromTrap s).tlb = s.tlb.settle := rfl
@[simp] theorem returnFromTrap_scu (s : State) : (returnFromTrap s).scu = s.scu := rfl
@[simp] theorem returnFromTrap_dbreak (s : State) : (returnFromTrap s).dbreak = s.dbreak := rfl
@[simp] theorem returnFromTrap_ibreak (s : State) : (returnFromTrap s).ibreak = s.ibreak := rfl
@[simp] theorem returnFromTrap_pm (s : State) : (returnFromTrap s).pm = s.pm := rfl
@[simp] theorem returnFromTrap_sdi (s : State) : (returnFromTrap s).sdi = s.sdi := rfl
@[simp] theorem returnFromTrap_intc (s : State) : (returnFromTrap s).intc = s.intc := rfl
@[simp] theorem returnFromTrap_timers (s : State) : (returnFromTrap s).timers = s.timers := rfl
@[simp] theorem returnFromTrap_dsu (s : State) : (returnFromTrap s).dsu = s.dsu := rfl
@[simp] theorem returnFromTrap_busErrorPending (s : State) : (returnFromTrap s).busErrorPending = s.busErrorPending := rfl
@[simp] theorem returnFromTrap_coreIdle (s : State) : (returnFromTrap s).coreIdle = s.coreIdle := rfl
@[simp] theorem returnFromTrap_waiting (s : State) : (returnFromTrap s).waiting = s.waiting := rfl
@[simp] theorem returnFromTrap_cregStored (s : State) : (returnFromTrap s).cregStored = s.cregStored := rfl
@[simp] theorem returnFromTrap_mem (s : State) : (returnFromTrap s).mem = s.mem := rfl
@[simp] theorem returnFromTrap_stale (s : State) : (returnFromTrap s).stale = s.stale := rfl
@[simp] theorem returnFromTrap_env (s : State) : (returnFromTrap s).env = s.env := rfl
@[simp] theorem returnFromTrap_free (s : State) : (returnFromTrap s).free = s.free := rfl

/-! ## `enterIdle` -/

@[simp] theorem enterIdle_cfg (s : State) : (enterIdle s).cfg = s.cfg := rfl
@[simp] theorem enterIdle_pc (s : State) : (enterIdle s).pc = s.pc := rfl
@[simp] theorem enterIdle_nextPc (s : State) : (enterIdle s).nextPc = s.pc := rfl
@[simp] theorem enterIdle_ext (s : State) : (enterIdle s).ext = s.ext := rfl
@[simp] theorem enterIdle_signal (s : State) : (enterIdle s).signal = s.signal := rfl
@[simp] theorem enterIdle_gpr (s : State) : (enterIdle s).gpr = s.gpr := rfl
@[simp] theorem enterIdle_br (s : State) : (enterIdle s).br = s.br := rfl
@[simp] theorem enterIdle_slrValid (s : State) : (enterIdle s).slrValid = s.slrValid := rfl
@[simp] theorem enterIdle_psw (s : State) : (enterIdle s).psw = s.psw := rfl
@[simp] theorem enterIdle_savedPsw (s : State) : (enterIdle s).savedPsw = s.savedPsw := rfl
@[simp] theorem enterIdle_savedPc (s : State) : (enterIdle s).savedPc = s.savedPc := rfl
@[simp] theorem enterIdle_savedSavedPsw (s : State) : (enterIdle s).savedSavedPsw = s.savedSavedPsw := rfl
@[simp] theorem enterIdle_savedSavedPc (s : State) : (enterIdle s).savedSavedPc = s.savedSavedPc := rfl
@[simp] theorem enterIdle_handlerPc (s : State) : (enterIdle s).handlerPc = s.handlerPc := rfl
@[simp] theorem enterIdle_excauseno (s : State) : (enterIdle s).excauseno = s.excauseno := rfl
@[simp] theorem enterIdle_exaddress (s : State) : (enterIdle s).exaddress = s.exaddress := rfl
@[simp] theorem enterIdle_scratch (s : State) : (enterIdle s).scratch = s.scratch := rfl
@[simp] theorem enterIdle_partition (s : State) : (enterIdle s).partition = s.partition := rfl
@[simp] theorem enterIdle_tlb (s : State) : (enterIdle s).tlb = s.tlb := rfl
@[simp] theorem enterIdle_scu (s : State) : (enterIdle s).scu = s.scu := rfl
@[simp] theorem enterIdle_dbreak (s : State) : (enterIdle s).dbreak = s.dbreak := rfl
@[simp] theorem enterIdle_ibreak (s : State) : (enterIdle s).ibreak = s.ibreak := rfl
@[simp] theorem enterIdle_pm (s : State) : (enterIdle s).pm = { s.pm with idle := true } := rfl
@[simp] theorem enterIdle_sdi (s : State) : (enterIdle s).sdi = s.sdi := rfl
@[simp] theorem enterIdle_intc (s : State) : (enterIdle s).intc = s.intc := rfl
@[simp] theorem enterIdle_timers (s : State) : (enterIdle s).timers = s.timers := rfl
@[simp] theorem enterIdle_dsu (s : State) : (enterIdle s).dsu = s.dsu := rfl
@[simp] theorem enterIdle_busErrorPending (s : State) : (enterIdle s).busErrorPending = s.busErrorPending := rfl
@[simp] theorem enterIdle_coreIdle (s : State) : (enterIdle s).coreIdle = true := rfl
@[simp] theorem enterIdle_waiting (s : State) : (enterIdle s).waiting = s.waiting := rfl
@[simp] theorem enterIdle_cregStored (s : State) : (enterIdle s).cregStored = s.cregStored := rfl
@[simp] theorem enterIdle_mem (s : State) : (enterIdle s).mem = s.mem := rfl
@[simp] theorem enterIdle_stale (s : State) : (enterIdle s).stale = s.stale := rfl
@[simp] theorem enterIdle_env (s : State) : (enterIdle s).env = s.env := rfl
@[simp] theorem enterIdle_free (s : State) : (enterIdle s).free = s.free := rfl

/-! ## `clearBuffer` -/

@[simp] theorem clearBuffer_cfg (s : State) : (clearBuffer s).cfg = s.cfg := rfl
@[simp] theorem clearBuffer_pc (s : State) : (clearBuffer s).pc = s.pc := rfl
@[simp] theorem clearBuffer_nextPc (s : State) : (clearBuffer s).nextPc = s.nextPc := rfl
@[simp] theorem clearBuffer_ext (s : State) : (clearBuffer s).ext = s.ext := rfl
@[simp] theorem clearBuffer_signal (s : State) : (clearBuffer s).signal = s.signal := rfl
@[simp] theorem clearBuffer_gpr (s : State) : (clearBuffer s).gpr = s.gpr := rfl
@[simp] theorem clearBuffer_br (s : State) : (clearBuffer s).br = s.br := rfl
@[simp] theorem clearBuffer_slrValid (s : State) : (clearBuffer s).slrValid = s.slrValid := rfl
@[simp] theorem clearBuffer_psw (s : State) : (clearBuffer s).psw = s.psw := rfl
@[simp] theorem clearBuffer_savedPsw (s : State) : (clearBuffer s).savedPsw = s.savedPsw := rfl
@[simp] theorem clearBuffer_savedPc (s : State) : (clearBuffer s).savedPc = s.savedPc := rfl
@[simp] theorem clearBuffer_savedSavedPsw (s : State) : (clearBuffer s).savedSavedPsw = s.savedSavedPsw := rfl
@[simp] theorem clearBuffer_savedSavedPc (s : State) : (clearBuffer s).savedSavedPc = s.savedSavedPc := rfl
@[simp] theorem clearBuffer_handlerPc (s : State) : (clearBuffer s).handlerPc = s.handlerPc := rfl
@[simp] theorem clearBuffer_excauseno (s : State) : (clearBuffer s).excauseno = s.excauseno := rfl
@[simp] theorem clearBuffer_exaddress (s : State) : (clearBuffer s).exaddress = s.exaddress := rfl
@[simp] theorem clearBuffer_scratch (s : State) : (clearBuffer s).scratch = s.scratch := rfl
@[simp] theorem clearBuffer_partition (s : State) : (clearBuffer s).partition = s.partition := rfl
@[simp] theorem clearBuffer_tlb (s : State) : (clearBuffer s).tlb = s.tlb := rfl
@[simp] theorem clearBuffer_scu (s : State) : (clearBuffer s).scu = s.scu := rfl
@[simp] theorem clearBuffer_dbreak (s : State) : (clearBuffer s).dbreak = s.dbreak := rfl
@[simp] theorem clearBuffer_ibreak (s : State) : (clearBuffer s).ibreak = s.ibreak := rfl
@[simp] theorem clearBuffer_pm (s : State) : (clearBuffer s).pm = s.pm := rfl
@[simp] theorem clearBuffer_sdi (s : State) : (clearBuffer s).sdi = s.sdi := rfl
@[simp] theorem clearBuffer_intc (s : State) : (clearBuffer s).intc = s.intc := rfl
@[simp] theorem clearBuffer_timers (s : State) : (clearBuffer s).timers = s.timers := rfl
@[simp] theorem clearBuffer_dsu (s : State) : (clearBuffer s).dsu = s.dsu := rfl
@[simp] theorem clearBuffer_busErrorPending (s : State) : (clearBuffer s).busErrorPending = s.busErrorPending := rfl
@[simp] theorem clearBuffer_coreIdle (s : State) : (clearBuffer s).coreIdle = s.coreIdle := rfl
@[simp] theorem clearBuffer_waiting (s : State) : (clearBuffer s).waiting = s.waiting := rfl
@[simp] theorem clearBuffer_cregStored (s : State) : (clearBuffer s).cregStored = s.cregStored := rfl
@[simp] theorem clearBuffer_mem (s : State) : (clearBuffer s).mem = s.mem := rfl
@[simp] theorem clearBuffer_stale (s : State) : (clearBuffer s).stale = staleKept (s.stale.map StaleWord.syncins) := rfl
@[simp] theorem clearBuffer_env (s : State) : (clearBuffer s).env = s.env := rfl
@[simp] theorem clearBuffer_free (s : State) : (clearBuffer s).free = s.free := rfl

/-! ## `emptyPipeline` -/

@[simp] theorem emptyPipeline_cfg (s : State) : (emptyPipeline s).cfg = s.cfg := rfl
@[simp] theorem emptyPipeline_pc (s : State) : (emptyPipeline s).pc = s.pc := rfl
@[simp] theorem emptyPipeline_nextPc (s : State) : (emptyPipeline s).nextPc = s.nextPc := rfl
@[simp] theorem emptyPipeline_ext (s : State) : (emptyPipeline s).ext = s.ext := rfl
@[simp] theorem emptyPipeline_signal (s : State) : (emptyPipeline s).signal = s.signal := rfl
@[simp] theorem emptyPipeline_gpr (s : State) : (emptyPipeline s).gpr = s.gpr := rfl
@[simp] theorem emptyPipeline_br (s : State) : (emptyPipeline s).br = s.br := rfl
@[simp] theorem emptyPipeline_slrValid (s : State) : (emptyPipeline s).slrValid = s.slrValid := rfl
@[simp] theorem emptyPipeline_psw (s : State) : (emptyPipeline s).psw = s.psw := rfl
@[simp] theorem emptyPipeline_savedPsw (s : State) : (emptyPipeline s).savedPsw = s.savedPsw := rfl
@[simp] theorem emptyPipeline_savedPc (s : State) : (emptyPipeline s).savedPc = s.savedPc := rfl
@[simp] theorem emptyPipeline_savedSavedPsw (s : State) : (emptyPipeline s).savedSavedPsw = s.savedSavedPsw := rfl
@[simp] theorem emptyPipeline_savedSavedPc (s : State) : (emptyPipeline s).savedSavedPc = s.savedSavedPc := rfl
@[simp] theorem emptyPipeline_handlerPc (s : State) : (emptyPipeline s).handlerPc = s.handlerPc := rfl
@[simp] theorem emptyPipeline_excauseno (s : State) : (emptyPipeline s).excauseno = s.excauseno := rfl
@[simp] theorem emptyPipeline_exaddress (s : State) : (emptyPipeline s).exaddress = s.exaddress := rfl
@[simp] theorem emptyPipeline_scratch (s : State) : (emptyPipeline s).scratch = s.scratch := rfl
@[simp] theorem emptyPipeline_partition (s : State) : (emptyPipeline s).partition = s.partition := rfl
@[simp] theorem emptyPipeline_tlb (s : State) : (emptyPipeline s).tlb = s.tlb.settle := rfl
@[simp] theorem emptyPipeline_scu (s : State) : (emptyPipeline s).scu = s.scu := rfl
@[simp] theorem emptyPipeline_dbreak (s : State) : (emptyPipeline s).dbreak = s.dbreak := rfl
@[simp] theorem emptyPipeline_ibreak (s : State) : (emptyPipeline s).ibreak = s.ibreak := rfl
@[simp] theorem emptyPipeline_pm (s : State) : (emptyPipeline s).pm = s.pm := rfl
@[simp] theorem emptyPipeline_sdi (s : State) : (emptyPipeline s).sdi = s.sdi := rfl
@[simp] theorem emptyPipeline_intc (s : State) : (emptyPipeline s).intc = s.intc := rfl
@[simp] theorem emptyPipeline_timers (s : State) : (emptyPipeline s).timers = s.timers := rfl
@[simp] theorem emptyPipeline_dsu (s : State) : (emptyPipeline s).dsu = s.dsu := rfl
@[simp] theorem emptyPipeline_busErrorPending (s : State) : (emptyPipeline s).busErrorPending = s.busErrorPending := rfl
@[simp] theorem emptyPipeline_coreIdle (s : State) : (emptyPipeline s).coreIdle = s.coreIdle := rfl
@[simp] theorem emptyPipeline_waiting (s : State) : (emptyPipeline s).waiting = s.waiting := rfl
@[simp] theorem emptyPipeline_cregStored (s : State) : (emptyPipeline s).cregStored = s.cregStored := rfl
@[simp] theorem emptyPipeline_mem (s : State) : (emptyPipeline s).mem = s.mem := rfl
@[simp] theorem emptyPipeline_stale (s : State) : (emptyPipeline s).stale = staleKept (s.stale.map StaleWord.syncins) := rfl
@[simp] theorem emptyPipeline_env (s : State) : (emptyPipeline s).env = s.env := rfl
@[simp] theorem emptyPipeline_free (s : State) : (emptyPipeline s).free = s.free := rfl

/-! ## `clearBufferOf` -/

@[simp] theorem clearBufferOf_cfg (olds : List StaleWord) (s : State) : (clearBufferOf olds s).cfg = s.cfg := rfl
@[simp] theorem clearBufferOf_pc (olds : List StaleWord) (s : State) : (clearBufferOf olds s).pc = s.pc := rfl
@[simp] theorem clearBufferOf_nextPc (olds : List StaleWord) (s : State) : (clearBufferOf olds s).nextPc = s.nextPc := rfl
@[simp] theorem clearBufferOf_ext (olds : List StaleWord) (s : State) : (clearBufferOf olds s).ext = s.ext := rfl
@[simp] theorem clearBufferOf_signal (olds : List StaleWord) (s : State) : (clearBufferOf olds s).signal = s.signal := rfl
@[simp] theorem clearBufferOf_gpr (olds : List StaleWord) (s : State) : (clearBufferOf olds s).gpr = s.gpr := rfl
@[simp] theorem clearBufferOf_br (olds : List StaleWord) (s : State) : (clearBufferOf olds s).br = s.br := rfl
@[simp] theorem clearBufferOf_slrValid (olds : List StaleWord) (s : State) : (clearBufferOf olds s).slrValid = s.slrValid := rfl
@[simp] theorem clearBufferOf_psw (olds : List StaleWord) (s : State) : (clearBufferOf olds s).psw = s.psw := rfl
@[simp] theorem clearBufferOf_savedPsw (olds : List StaleWord) (s : State) : (clearBufferOf olds s).savedPsw = s.savedPsw := rfl
@[simp] theorem clearBufferOf_savedPc (olds : List StaleWord) (s : State) : (clearBufferOf olds s).savedPc = s.savedPc := rfl
@[simp] theorem clearBufferOf_savedSavedPsw (olds : List StaleWord) (s : State) : (clearBufferOf olds s).savedSavedPsw = s.savedSavedPsw := rfl
@[simp] theorem clearBufferOf_savedSavedPc (olds : List StaleWord) (s : State) : (clearBufferOf olds s).savedSavedPc = s.savedSavedPc := rfl
@[simp] theorem clearBufferOf_handlerPc (olds : List StaleWord) (s : State) : (clearBufferOf olds s).handlerPc = s.handlerPc := rfl
@[simp] theorem clearBufferOf_excauseno (olds : List StaleWord) (s : State) : (clearBufferOf olds s).excauseno = s.excauseno := rfl
@[simp] theorem clearBufferOf_exaddress (olds : List StaleWord) (s : State) : (clearBufferOf olds s).exaddress = s.exaddress := rfl
@[simp] theorem clearBufferOf_scratch (olds : List StaleWord) (s : State) : (clearBufferOf olds s).scratch = s.scratch := rfl
@[simp] theorem clearBufferOf_partition (olds : List StaleWord) (s : State) : (clearBufferOf olds s).partition = s.partition := rfl
@[simp] theorem clearBufferOf_tlb (olds : List StaleWord) (s : State) : (clearBufferOf olds s).tlb = s.tlb := rfl
@[simp] theorem clearBufferOf_scu (olds : List StaleWord) (s : State) : (clearBufferOf olds s).scu = s.scu := rfl
@[simp] theorem clearBufferOf_dbreak (olds : List StaleWord) (s : State) : (clearBufferOf olds s).dbreak = s.dbreak := rfl
@[simp] theorem clearBufferOf_ibreak (olds : List StaleWord) (s : State) : (clearBufferOf olds s).ibreak = s.ibreak := rfl
@[simp] theorem clearBufferOf_pm (olds : List StaleWord) (s : State) : (clearBufferOf olds s).pm = s.pm := rfl
@[simp] theorem clearBufferOf_sdi (olds : List StaleWord) (s : State) : (clearBufferOf olds s).sdi = s.sdi := rfl
@[simp] theorem clearBufferOf_intc (olds : List StaleWord) (s : State) : (clearBufferOf olds s).intc = s.intc := rfl
@[simp] theorem clearBufferOf_timers (olds : List StaleWord) (s : State) : (clearBufferOf olds s).timers = s.timers := rfl
@[simp] theorem clearBufferOf_dsu (olds : List StaleWord) (s : State) : (clearBufferOf olds s).dsu = s.dsu := rfl
@[simp] theorem clearBufferOf_busErrorPending (olds : List StaleWord) (s : State) : (clearBufferOf olds s).busErrorPending = s.busErrorPending := rfl
@[simp] theorem clearBufferOf_coreIdle (olds : List StaleWord) (s : State) : (clearBufferOf olds s).coreIdle = s.coreIdle := rfl
@[simp] theorem clearBufferOf_waiting (olds : List StaleWord) (s : State) : (clearBufferOf olds s).waiting = s.waiting := rfl
@[simp] theorem clearBufferOf_cregStored (olds : List StaleWord) (s : State) : (clearBufferOf olds s).cregStored = s.cregStored := rfl
@[simp] theorem clearBufferOf_mem (olds : List StaleWord) (s : State) : (clearBufferOf olds s).mem = s.mem := rfl
@[simp] theorem clearBufferOf_stale (olds : List StaleWord) (s : State) : (clearBufferOf olds s).stale = staleKept (List.zipWith StaleWord.cleanOf s.stale olds) := rfl
@[simp] theorem clearBufferOf_env (olds : List StaleWord) (s : State) : (clearBufferOf olds s).env = s.env := rfl
@[simp] theorem clearBufferOf_free (olds : List StaleWord) (s : State) : (clearBufferOf olds s).free = s.free := rfl

/-! ## `touchLine` -/

@[simp] theorem touchLine_cfg (f : StaleWord → Word → StaleWord) (c : Bool) (a : Word) (s : State) : (touchLine f c a s).cfg = s.cfg := by unfold touchLine; split <;> rfl
@[simp] theorem touchLine_pc (f : StaleWord → Word → StaleWord) (c : Bool) (a : Word) (s : State) : (touchLine f c a s).pc = s.pc := by unfold touchLine; split <;> rfl
@[simp] theorem touchLine_nextPc (f : StaleWord → Word → StaleWord) (c : Bool) (a : Word) (s : State) : (touchLine f c a s).nextPc = s.nextPc := by unfold touchLine; split <;> rfl
@[simp] theorem touchLine_ext (f : StaleWord → Word → StaleWord) (c : Bool) (a : Word) (s : State) : (touchLine f c a s).ext = s.ext := by unfold touchLine; split <;> rfl
@[simp] theorem touchLine_signal (f : StaleWord → Word → StaleWord) (c : Bool) (a : Word) (s : State) : (touchLine f c a s).signal = s.signal := by unfold touchLine; split <;> rfl
@[simp] theorem touchLine_gpr (f : StaleWord → Word → StaleWord) (c : Bool) (a : Word) (s : State) : (touchLine f c a s).gpr = s.gpr := by unfold touchLine; split <;> rfl
@[simp] theorem touchLine_br (f : StaleWord → Word → StaleWord) (c : Bool) (a : Word) (s : State) : (touchLine f c a s).br = s.br := by unfold touchLine; split <;> rfl
@[simp] theorem touchLine_slrValid (f : StaleWord → Word → StaleWord) (c : Bool) (a : Word) (s : State) : (touchLine f c a s).slrValid = s.slrValid := by unfold touchLine; split <;> rfl
@[simp] theorem touchLine_psw (f : StaleWord → Word → StaleWord) (c : Bool) (a : Word) (s : State) : (touchLine f c a s).psw = s.psw := by unfold touchLine; split <;> rfl
@[simp] theorem touchLine_savedPsw (f : StaleWord → Word → StaleWord) (c : Bool) (a : Word) (s : State) : (touchLine f c a s).savedPsw = s.savedPsw := by unfold touchLine; split <;> rfl
@[simp] theorem touchLine_savedPc (f : StaleWord → Word → StaleWord) (c : Bool) (a : Word) (s : State) : (touchLine f c a s).savedPc = s.savedPc := by unfold touchLine; split <;> rfl
@[simp] theorem touchLine_savedSavedPsw (f : StaleWord → Word → StaleWord) (c : Bool) (a : Word) (s : State) : (touchLine f c a s).savedSavedPsw = s.savedSavedPsw := by unfold touchLine; split <;> rfl
@[simp] theorem touchLine_savedSavedPc (f : StaleWord → Word → StaleWord) (c : Bool) (a : Word) (s : State) : (touchLine f c a s).savedSavedPc = s.savedSavedPc := by unfold touchLine; split <;> rfl
@[simp] theorem touchLine_handlerPc (f : StaleWord → Word → StaleWord) (c : Bool) (a : Word) (s : State) : (touchLine f c a s).handlerPc = s.handlerPc := by unfold touchLine; split <;> rfl
@[simp] theorem touchLine_excauseno (f : StaleWord → Word → StaleWord) (c : Bool) (a : Word) (s : State) : (touchLine f c a s).excauseno = s.excauseno := by unfold touchLine; split <;> rfl
@[simp] theorem touchLine_exaddress (f : StaleWord → Word → StaleWord) (c : Bool) (a : Word) (s : State) : (touchLine f c a s).exaddress = s.exaddress := by unfold touchLine; split <;> rfl
@[simp] theorem touchLine_scratch (f : StaleWord → Word → StaleWord) (c : Bool) (a : Word) (s : State) : (touchLine f c a s).scratch = s.scratch := by unfold touchLine; split <;> rfl
@[simp] theorem touchLine_partition (f : StaleWord → Word → StaleWord) (c : Bool) (a : Word) (s : State) : (touchLine f c a s).partition = s.partition := by unfold touchLine; split <;> rfl
@[simp] theorem touchLine_tlb (f : StaleWord → Word → StaleWord) (c : Bool) (a : Word) (s : State) : (touchLine f c a s).tlb = s.tlb := by unfold touchLine; split <;> rfl
@[simp] theorem touchLine_scu (f : StaleWord → Word → StaleWord) (c : Bool) (a : Word) (s : State) : (touchLine f c a s).scu = s.scu := by unfold touchLine; split <;> rfl
@[simp] theorem touchLine_dbreak (f : StaleWord → Word → StaleWord) (c : Bool) (a : Word) (s : State) : (touchLine f c a s).dbreak = s.dbreak := by unfold touchLine; split <;> rfl
@[simp] theorem touchLine_ibreak (f : StaleWord → Word → StaleWord) (c : Bool) (a : Word) (s : State) : (touchLine f c a s).ibreak = s.ibreak := by unfold touchLine; split <;> rfl
@[simp] theorem touchLine_pm (f : StaleWord → Word → StaleWord) (c : Bool) (a : Word) (s : State) : (touchLine f c a s).pm = s.pm := by unfold touchLine; split <;> rfl
@[simp] theorem touchLine_sdi (f : StaleWord → Word → StaleWord) (c : Bool) (a : Word) (s : State) : (touchLine f c a s).sdi = s.sdi := by unfold touchLine; split <;> rfl
@[simp] theorem touchLine_intc (f : StaleWord → Word → StaleWord) (c : Bool) (a : Word) (s : State) : (touchLine f c a s).intc = s.intc := by unfold touchLine; split <;> rfl
@[simp] theorem touchLine_timers (f : StaleWord → Word → StaleWord) (c : Bool) (a : Word) (s : State) : (touchLine f c a s).timers = s.timers := by unfold touchLine; split <;> rfl
@[simp] theorem touchLine_dsu (f : StaleWord → Word → StaleWord) (c : Bool) (a : Word) (s : State) : (touchLine f c a s).dsu = s.dsu := by unfold touchLine; split <;> rfl
@[simp] theorem touchLine_busErrorPending (f : StaleWord → Word → StaleWord) (c : Bool) (a : Word) (s : State) : (touchLine f c a s).busErrorPending = s.busErrorPending := by unfold touchLine; split <;> rfl
@[simp] theorem touchLine_coreIdle (f : StaleWord → Word → StaleWord) (c : Bool) (a : Word) (s : State) : (touchLine f c a s).coreIdle = s.coreIdle := by unfold touchLine; split <;> rfl
@[simp] theorem touchLine_waiting (f : StaleWord → Word → StaleWord) (c : Bool) (a : Word) (s : State) : (touchLine f c a s).waiting = s.waiting := by unfold touchLine; split <;> rfl
@[simp] theorem touchLine_cregStored (f : StaleWord → Word → StaleWord) (c : Bool) (a : Word) (s : State) : (touchLine f c a s).cregStored = s.cregStored := by unfold touchLine; split <;> rfl
@[simp] theorem touchLine_mem (f : StaleWord → Word → StaleWord) (c : Bool) (a : Word) (s : State) : (touchLine f c a s).mem = s.mem := by unfold touchLine; split <;> rfl
@[simp] theorem touchLine_env (f : StaleWord → Word → StaleWord) (c : Bool) (a : Word) (s : State) : (touchLine f c a s).env = s.env := by unfold touchLine; split <;> rfl
@[simp] theorem touchLine_free (f : StaleWord → Word → StaleWord) (c : Bool) (a : Word) (s : State) : (touchLine f c a s).free = s.free := by unfold touchLine; split <;> rfl

/-! ## `dropFailedLine` -/

@[simp] theorem dropFailedLine_cfg (f : Fetched) (s : State) : (dropFailedLine f s).cfg = s.cfg := by unfold dropFailedLine; split <;> rfl
@[simp] theorem dropFailedLine_pc (f : Fetched) (s : State) : (dropFailedLine f s).pc = s.pc := by unfold dropFailedLine; split <;> rfl
@[simp] theorem dropFailedLine_nextPc (f : Fetched) (s : State) : (dropFailedLine f s).nextPc = s.nextPc := by unfold dropFailedLine; split <;> rfl
@[simp] theorem dropFailedLine_ext (f : Fetched) (s : State) : (dropFailedLine f s).ext = s.ext := by unfold dropFailedLine; split <;> rfl
@[simp] theorem dropFailedLine_signal (f : Fetched) (s : State) : (dropFailedLine f s).signal = s.signal := by unfold dropFailedLine; split <;> rfl
@[simp] theorem dropFailedLine_gpr (f : Fetched) (s : State) : (dropFailedLine f s).gpr = s.gpr := by unfold dropFailedLine; split <;> rfl
@[simp] theorem dropFailedLine_br (f : Fetched) (s : State) : (dropFailedLine f s).br = s.br := by unfold dropFailedLine; split <;> rfl
@[simp] theorem dropFailedLine_slrValid (f : Fetched) (s : State) : (dropFailedLine f s).slrValid = s.slrValid := by unfold dropFailedLine; split <;> rfl
@[simp] theorem dropFailedLine_psw (f : Fetched) (s : State) : (dropFailedLine f s).psw = s.psw := by unfold dropFailedLine; split <;> rfl
@[simp] theorem dropFailedLine_savedPsw (f : Fetched) (s : State) : (dropFailedLine f s).savedPsw = s.savedPsw := by unfold dropFailedLine; split <;> rfl
@[simp] theorem dropFailedLine_savedPc (f : Fetched) (s : State) : (dropFailedLine f s).savedPc = s.savedPc := by unfold dropFailedLine; split <;> rfl
@[simp] theorem dropFailedLine_savedSavedPsw (f : Fetched) (s : State) : (dropFailedLine f s).savedSavedPsw = s.savedSavedPsw := by unfold dropFailedLine; split <;> rfl
@[simp] theorem dropFailedLine_savedSavedPc (f : Fetched) (s : State) : (dropFailedLine f s).savedSavedPc = s.savedSavedPc := by unfold dropFailedLine; split <;> rfl
@[simp] theorem dropFailedLine_handlerPc (f : Fetched) (s : State) : (dropFailedLine f s).handlerPc = s.handlerPc := by unfold dropFailedLine; split <;> rfl
@[simp] theorem dropFailedLine_excauseno (f : Fetched) (s : State) : (dropFailedLine f s).excauseno = s.excauseno := by unfold dropFailedLine; split <;> rfl
@[simp] theorem dropFailedLine_exaddress (f : Fetched) (s : State) : (dropFailedLine f s).exaddress = s.exaddress := by unfold dropFailedLine; split <;> rfl
@[simp] theorem dropFailedLine_scratch (f : Fetched) (s : State) : (dropFailedLine f s).scratch = s.scratch := by unfold dropFailedLine; split <;> rfl
@[simp] theorem dropFailedLine_partition (f : Fetched) (s : State) : (dropFailedLine f s).partition = s.partition := by unfold dropFailedLine; split <;> rfl
@[simp] theorem dropFailedLine_tlb (f : Fetched) (s : State) : (dropFailedLine f s).tlb = s.tlb := by unfold dropFailedLine; split <;> rfl
@[simp] theorem dropFailedLine_scu (f : Fetched) (s : State) : (dropFailedLine f s).scu = s.scu := by unfold dropFailedLine; split <;> rfl
@[simp] theorem dropFailedLine_dbreak (f : Fetched) (s : State) : (dropFailedLine f s).dbreak = s.dbreak := by unfold dropFailedLine; split <;> rfl
@[simp] theorem dropFailedLine_ibreak (f : Fetched) (s : State) : (dropFailedLine f s).ibreak = s.ibreak := by unfold dropFailedLine; split <;> rfl
@[simp] theorem dropFailedLine_pm (f : Fetched) (s : State) : (dropFailedLine f s).pm = s.pm := by unfold dropFailedLine; split <;> rfl
@[simp] theorem dropFailedLine_sdi (f : Fetched) (s : State) : (dropFailedLine f s).sdi = s.sdi := by unfold dropFailedLine; split <;> rfl
@[simp] theorem dropFailedLine_intc (f : Fetched) (s : State) : (dropFailedLine f s).intc = s.intc := by unfold dropFailedLine; split <;> rfl
@[simp] theorem dropFailedLine_timers (f : Fetched) (s : State) : (dropFailedLine f s).timers = s.timers := by unfold dropFailedLine; split <;> rfl
@[simp] theorem dropFailedLine_dsu (f : Fetched) (s : State) : (dropFailedLine f s).dsu = s.dsu := by unfold dropFailedLine; split <;> rfl
@[simp] theorem dropFailedLine_busErrorPending (f : Fetched) (s : State) : (dropFailedLine f s).busErrorPending = s.busErrorPending := by unfold dropFailedLine; split <;> rfl
@[simp] theorem dropFailedLine_coreIdle (f : Fetched) (s : State) : (dropFailedLine f s).coreIdle = s.coreIdle := by unfold dropFailedLine; split <;> rfl
@[simp] theorem dropFailedLine_waiting (f : Fetched) (s : State) : (dropFailedLine f s).waiting = s.waiting := by unfold dropFailedLine; split <;> rfl
@[simp] theorem dropFailedLine_cregStored (f : Fetched) (s : State) : (dropFailedLine f s).cregStored = s.cregStored := by unfold dropFailedLine; split <;> rfl
@[simp] theorem dropFailedLine_mem (f : Fetched) (s : State) : (dropFailedLine f s).mem = s.mem := by unfold dropFailedLine; split <;> rfl
@[simp] theorem dropFailedLine_env (f : Fetched) (s : State) : (dropFailedLine f s).env = s.env := by unfold dropFailedLine; split <;> rfl
@[simp] theorem dropFailedLine_free (f : Fetched) (s : State) : (dropFailedLine f s).free = s.free := by unfold dropFailedLine; split <;> rfl

/-! ## `noteFetch` -/

@[simp] theorem noteFetch_cfg (s : State) : (noteFetch s).cfg = s.cfg := rfl
@[simp] theorem noteFetch_pc (s : State) : (noteFetch s).pc = s.pc := rfl
@[simp] theorem noteFetch_nextPc (s : State) : (noteFetch s).nextPc = s.nextPc := rfl
@[simp] theorem noteFetch_ext (s : State) : (noteFetch s).ext = s.ext := rfl
@[simp] theorem noteFetch_signal (s : State) : (noteFetch s).signal = s.signal := rfl
@[simp] theorem noteFetch_gpr (s : State) : (noteFetch s).gpr = s.gpr := rfl
@[simp] theorem noteFetch_br (s : State) : (noteFetch s).br = s.br := rfl
@[simp] theorem noteFetch_slrValid (s : State) : (noteFetch s).slrValid = s.slrValid := rfl
@[simp] theorem noteFetch_psw (s : State) : (noteFetch s).psw = s.psw := rfl
@[simp] theorem noteFetch_savedPsw (s : State) : (noteFetch s).savedPsw = s.savedPsw := rfl
@[simp] theorem noteFetch_savedPc (s : State) : (noteFetch s).savedPc = s.savedPc := rfl
@[simp] theorem noteFetch_savedSavedPsw (s : State) : (noteFetch s).savedSavedPsw = s.savedSavedPsw := rfl
@[simp] theorem noteFetch_savedSavedPc (s : State) : (noteFetch s).savedSavedPc = s.savedSavedPc := rfl
@[simp] theorem noteFetch_handlerPc (s : State) : (noteFetch s).handlerPc = s.handlerPc := rfl
@[simp] theorem noteFetch_excauseno (s : State) : (noteFetch s).excauseno = s.excauseno := rfl
@[simp] theorem noteFetch_exaddress (s : State) : (noteFetch s).exaddress = s.exaddress := rfl
@[simp] theorem noteFetch_scratch (s : State) : (noteFetch s).scratch = s.scratch := rfl
@[simp] theorem noteFetch_partition (s : State) : (noteFetch s).partition = s.partition := rfl
@[simp] theorem noteFetch_tlb (s : State) : (noteFetch s).tlb = (fetchAddresses s).foldl (Tlb.noteAccess .fetch) s.tlb := rfl
@[simp] theorem noteFetch_scu (s : State) : (noteFetch s).scu = s.scu := rfl
@[simp] theorem noteFetch_dbreak (s : State) : (noteFetch s).dbreak = s.dbreak := rfl
@[simp] theorem noteFetch_ibreak (s : State) : (noteFetch s).ibreak = s.ibreak := rfl
@[simp] theorem noteFetch_pm (s : State) : (noteFetch s).pm = s.pm := rfl
@[simp] theorem noteFetch_sdi (s : State) : (noteFetch s).sdi = s.sdi := rfl
@[simp] theorem noteFetch_intc (s : State) : (noteFetch s).intc = s.intc := rfl
@[simp] theorem noteFetch_timers (s : State) : (noteFetch s).timers = s.timers := rfl
@[simp] theorem noteFetch_dsu (s : State) : (noteFetch s).dsu = s.dsu := rfl
@[simp] theorem noteFetch_busErrorPending (s : State) : (noteFetch s).busErrorPending = s.busErrorPending := rfl
@[simp] theorem noteFetch_coreIdle (s : State) : (noteFetch s).coreIdle = s.coreIdle := rfl
@[simp] theorem noteFetch_waiting (s : State) : (noteFetch s).waiting = s.waiting := rfl
@[simp] theorem noteFetch_cregStored (s : State) : (noteFetch s).cregStored = s.cregStored := rfl
@[simp] theorem noteFetch_mem (s : State) : (noteFetch s).mem = s.mem := rfl
@[simp] theorem noteFetch_stale (s : State) : (noteFetch s).stale = s.stale := rfl
@[simp] theorem noteFetch_env (s : State) : (noteFetch s).env = s.env := rfl
@[simp] theorem noteFetch_free (s : State) : (noteFetch s).free = s.free := rfl

/-! ## `noteData` -/

@[simp] theorem noteData_cfg (ws : List Word) (s : State) : (noteData ws s).cfg = s.cfg := rfl
@[simp] theorem noteData_pc (ws : List Word) (s : State) : (noteData ws s).pc = s.pc := rfl
@[simp] theorem noteData_nextPc (ws : List Word) (s : State) : (noteData ws s).nextPc = s.nextPc := rfl
@[simp] theorem noteData_ext (ws : List Word) (s : State) : (noteData ws s).ext = s.ext := rfl
@[simp] theorem noteData_signal (ws : List Word) (s : State) : (noteData ws s).signal = s.signal := rfl
@[simp] theorem noteData_gpr (ws : List Word) (s : State) : (noteData ws s).gpr = s.gpr := rfl
@[simp] theorem noteData_br (ws : List Word) (s : State) : (noteData ws s).br = s.br := rfl
@[simp] theorem noteData_slrValid (ws : List Word) (s : State) : (noteData ws s).slrValid = s.slrValid := rfl
@[simp] theorem noteData_psw (ws : List Word) (s : State) : (noteData ws s).psw = s.psw := rfl
@[simp] theorem noteData_savedPsw (ws : List Word) (s : State) : (noteData ws s).savedPsw = s.savedPsw := rfl
@[simp] theorem noteData_savedPc (ws : List Word) (s : State) : (noteData ws s).savedPc = s.savedPc := rfl
@[simp] theorem noteData_savedSavedPsw (ws : List Word) (s : State) : (noteData ws s).savedSavedPsw = s.savedSavedPsw := rfl
@[simp] theorem noteData_savedSavedPc (ws : List Word) (s : State) : (noteData ws s).savedSavedPc = s.savedSavedPc := rfl
@[simp] theorem noteData_handlerPc (ws : List Word) (s : State) : (noteData ws s).handlerPc = s.handlerPc := rfl
@[simp] theorem noteData_excauseno (ws : List Word) (s : State) : (noteData ws s).excauseno = s.excauseno := rfl
@[simp] theorem noteData_exaddress (ws : List Word) (s : State) : (noteData ws s).exaddress = s.exaddress := rfl
@[simp] theorem noteData_scratch (ws : List Word) (s : State) : (noteData ws s).scratch = s.scratch := rfl
@[simp] theorem noteData_partition (ws : List Word) (s : State) : (noteData ws s).partition = s.partition := rfl
@[simp] theorem noteData_tlb (ws : List Word) (s : State) : (noteData ws s).tlb = (dataAddresses s ws).foldl (Tlb.noteAccess .data) s.tlb := rfl
@[simp] theorem noteData_scu (ws : List Word) (s : State) : (noteData ws s).scu = s.scu := rfl
@[simp] theorem noteData_dbreak (ws : List Word) (s : State) : (noteData ws s).dbreak = s.dbreak := rfl
@[simp] theorem noteData_ibreak (ws : List Word) (s : State) : (noteData ws s).ibreak = s.ibreak := rfl
@[simp] theorem noteData_pm (ws : List Word) (s : State) : (noteData ws s).pm = s.pm := rfl
@[simp] theorem noteData_sdi (ws : List Word) (s : State) : (noteData ws s).sdi = s.sdi := rfl
@[simp] theorem noteData_intc (ws : List Word) (s : State) : (noteData ws s).intc = s.intc := rfl
@[simp] theorem noteData_timers (ws : List Word) (s : State) : (noteData ws s).timers = s.timers := rfl
@[simp] theorem noteData_dsu (ws : List Word) (s : State) : (noteData ws s).dsu = s.dsu := rfl
@[simp] theorem noteData_busErrorPending (ws : List Word) (s : State) : (noteData ws s).busErrorPending = s.busErrorPending := rfl
@[simp] theorem noteData_coreIdle (ws : List Word) (s : State) : (noteData ws s).coreIdle = s.coreIdle := rfl
@[simp] theorem noteData_waiting (ws : List Word) (s : State) : (noteData ws s).waiting = s.waiting := rfl
@[simp] theorem noteData_cregStored (ws : List Word) (s : State) : (noteData ws s).cregStored = s.cregStored := rfl
@[simp] theorem noteData_mem (ws : List Word) (s : State) : (noteData ws s).mem = s.mem := rfl
@[simp] theorem noteData_stale (ws : List Word) (s : State) : (noteData ws s).stale = s.stale := rfl
@[simp] theorem noteData_env (ws : List Word) (s : State) : (noteData ws s).env = s.env := rfl
@[simp] theorem noteData_free (ws : List Word) (s : State) : (noteData ws s).free = s.free := rfl

/-! ## `tickHazards` -/

@[simp] theorem tickHazards_cfg (s : State) : (tickHazards s).cfg = s.cfg := rfl
@[simp] theorem tickHazards_pc (s : State) : (tickHazards s).pc = s.pc := rfl
@[simp] theorem tickHazards_nextPc (s : State) : (tickHazards s).nextPc = s.nextPc := rfl
@[simp] theorem tickHazards_ext (s : State) : (tickHazards s).ext = s.ext := rfl
@[simp] theorem tickHazards_signal (s : State) : (tickHazards s).signal = s.signal := rfl
@[simp] theorem tickHazards_gpr (s : State) : (tickHazards s).gpr = s.gpr := rfl
@[simp] theorem tickHazards_br (s : State) : (tickHazards s).br = s.br := rfl
@[simp] theorem tickHazards_slrValid (s : State) : (tickHazards s).slrValid = s.slrValid := rfl
@[simp] theorem tickHazards_psw (s : State) : (tickHazards s).psw = s.psw := rfl
@[simp] theorem tickHazards_savedPsw (s : State) : (tickHazards s).savedPsw = s.savedPsw.tick := rfl
@[simp] theorem tickHazards_savedPc (s : State) : (tickHazards s).savedPc = s.savedPc.tick := rfl
@[simp] theorem tickHazards_savedSavedPsw (s : State) : (tickHazards s).savedSavedPsw = s.savedSavedPsw.tick := rfl
@[simp] theorem tickHazards_savedSavedPc (s : State) : (tickHazards s).savedSavedPc = s.savedSavedPc.tick := rfl
@[simp] theorem tickHazards_handlerPc (s : State) : (tickHazards s).handlerPc = s.handlerPc := rfl
@[simp] theorem tickHazards_excauseno (s : State) : (tickHazards s).excauseno = s.excauseno := rfl
@[simp] theorem tickHazards_exaddress (s : State) : (tickHazards s).exaddress = s.exaddress := rfl
@[simp] theorem tickHazards_scratch (s : State) : (tickHazards s).scratch = s.scratch := rfl
@[simp] theorem tickHazards_partition (s : State) : (tickHazards s).partition = s.partition := rfl
@[simp] theorem tickHazards_tlb (s : State) : (tickHazards s).tlb = s.tlb.tick := rfl
@[simp] theorem tickHazards_scu (s : State) : (tickHazards s).scu = s.scu := rfl
@[simp] theorem tickHazards_dbreak (s : State) : (tickHazards s).dbreak = s.dbreak := rfl
@[simp] theorem tickHazards_ibreak (s : State) : (tickHazards s).ibreak = s.ibreak := rfl
@[simp] theorem tickHazards_pm (s : State) : (tickHazards s).pm = s.pm := rfl
@[simp] theorem tickHazards_sdi (s : State) : (tickHazards s).sdi = s.sdi := rfl
@[simp] theorem tickHazards_intc (s : State) : (tickHazards s).intc = s.intc := rfl
@[simp] theorem tickHazards_timers (s : State) : (tickHazards s).timers = s.timers := rfl
@[simp] theorem tickHazards_dsu (s : State) : (tickHazards s).dsu = s.dsu := rfl
@[simp] theorem tickHazards_busErrorPending (s : State) : (tickHazards s).busErrorPending = s.busErrorPending := rfl
@[simp] theorem tickHazards_coreIdle (s : State) : (tickHazards s).coreIdle = s.coreIdle := rfl
@[simp] theorem tickHazards_waiting (s : State) : (tickHazards s).waiting = s.waiting := rfl
@[simp] theorem tickHazards_cregStored (s : State) : (tickHazards s).cregStored = s.cregStored := rfl
@[simp] theorem tickHazards_mem (s : State) : (tickHazards s).mem = s.mem := rfl
@[simp] theorem tickHazards_stale (s : State) : (tickHazards s).stale = s.stale := rfl
@[simp] theorem tickHazards_env (s : State) : (tickHazards s).env = s.env := rfl
@[simp] theorem tickHazards_free (s : State) : (tickHazards s).free = s.free := rfl

/-! ## The translation unit -/

@[simp] theorem Tlb.settle_index (t : Tlb) : (t.settle).index = t.index := rfl
@[simp] theorem Tlb.settle_entries (t : Tlb) : (t.settle).entries = t.entries := rfl
@[simp] theorem Tlb.settle_excause (t : Tlb) : (t.settle).excause = t.excause := rfl
@[simp] theorem Tlb.settle_asid (t : Tlb) : (t.settle).asid = t.asid := rfl
@[simp] theorem Tlb.settle_lfsr (t : Tlb) : (t.settle).lfsr = t.lfsr := rfl
@[simp] theorem Tlb.settle_limit (t : Tlb) : (t.settle).limit = t.limit := rfl
@[simp] theorem Tlb.tick_index (t : Tlb) : (t.tick).index = t.index := rfl
@[simp] theorem Tlb.tick_entries (t : Tlb) : (t.tick).entries = t.entries := rfl
@[simp] theorem Tlb.tick_excause (t : Tlb) : (t.tick).excause = t.excause := rfl
@[simp] theorem Tlb.tick_asid (t : Tlb) : (t.tick).asid = t.asid := rfl
@[simp] theorem Tlb.tick_lfsr (t : Tlb) : (t.tick).lfsr = t.lfsr := rfl
@[simp] theorem Tlb.tick_limit (t : Tlb) : (t.tick).limit = t.limit := rfl
@[simp] theorem Tlb.flush_index (t : Tlb) (i d : Bool) : (t.flush i d).index = t.index := by unfold Tlb.flush; split <;> rfl
@[simp] theorem Tlb.flush_entries (t : Tlb) (i d : Bool) : (t.flush i d).entries = t.entries := by unfold Tlb.flush; split <;> rfl
@[simp] theorem Tlb.flush_excause (t : Tlb) (i d : Bool) : (t.flush i d).excause = t.excause := by unfold Tlb.flush; split <;> rfl
@[simp] theorem Tlb.flush_asid (t : Tlb) (i d : Bool) : (t.flush i d).asid = t.asid := by unfold Tlb.flush; split <;> rfl
@[simp] theorem Tlb.flush_lfsr (t : Tlb) (i d : Bool) : (t.flush i d).lfsr = t.lfsr := by unfold Tlb.flush; split <;> rfl
@[simp] theorem Tlb.flush_limit (t : Tlb) (i d : Bool) : (t.flush i d).limit = t.limit := by unfold Tlb.flush; split <;> rfl
@[simp] theorem Tlb.setAsid_index (t : Tlb) (v : BitVec 8) : (t.setAsid v).index = t.index := by unfold Tlb.setAsid; dsimp only; split <;> simp
@[simp] theorem Tlb.setAsid_entries (t : Tlb) (v : BitVec 8) : (t.setAsid v).entries = t.entries := by unfold Tlb.setAsid; dsimp only; split <;> simp
@[simp] theorem Tlb.setAsid_excause (t : Tlb) (v : BitVec 8) : (t.setAsid v).excause = t.excause := by unfold Tlb.setAsid; dsimp only; split <;> simp
@[simp] theorem Tlb.setAsid_lfsr (t : Tlb) (v : BitVec 8) : (t.setAsid v).lfsr = t.lfsr := by unfold Tlb.setAsid; dsimp only; split <;> simp
@[simp] theorem Tlb.setAsid_limit (t : Tlb) (v : BitVec 8) : (t.setAsid v).limit = t.limit := by unfold Tlb.setAsid; dsimp only; split <;> simp
@[simp] theorem Tlb.setCurrent_index (t : Tlb) (e : TlbEntry) : (t.setCurrent e).index = t.index := by unfold Tlb.setCurrent Tlb.setEntry; split <;> rfl
@[simp] theorem Tlb.setCurrent_excause (t : Tlb) (e : TlbEntry) : (t.setCurrent e).excause = t.excause := by unfold Tlb.setCurrent Tlb.setEntry; split <;> rfl
@[simp] theorem Tlb.setCurrent_asid (t : Tlb) (e : TlbEntry) : (t.setCurrent e).asid = t.asid := by unfold Tlb.setCurrent Tlb.setEntry; split <;> rfl
@[simp] theorem Tlb.setCurrent_lfsr (t : Tlb) (e : TlbEntry) : (t.setCurrent e).lfsr = t.lfsr := by unfold Tlb.setCurrent Tlb.setEntry; split <;> rfl
@[simp] theorem Tlb.setCurrent_limit (t : Tlb) (e : TlbEntry) : (t.setCurrent e).limit = t.limit := by unfold Tlb.setCurrent Tlb.setEntry; split <;> rfl
@[simp] theorem Tlb.noteAccess_index (d : Side) (t : Tlb) (a : Word) : (Tlb.noteAccess d t a).index = t.index := by unfold Tlb.noteAccess; cases d <;> rfl
@[simp] theorem Tlb.noteAccess_entries (d : Side) (t : Tlb) (a : Word) : (Tlb.noteAccess d t a).entries = t.entries := by unfold Tlb.noteAccess; cases d <;> rfl
@[simp] theorem Tlb.noteAccess_excause (d : Side) (t : Tlb) (a : Word) : (Tlb.noteAccess d t a).excause = t.excause := by unfold Tlb.noteAccess; cases d <;> rfl
@[simp] theorem Tlb.noteAccess_asid (d : Side) (t : Tlb) (a : Word) : (Tlb.noteAccess d t a).asid = t.asid := by unfold Tlb.noteAccess; cases d <;> rfl
@[simp] theorem Tlb.noteAccess_lfsr (d : Side) (t : Tlb) (a : Word) : (Tlb.noteAccess d t a).lfsr = t.lfsr := by unfold Tlb.noteAccess; cases d <;> rfl
@[simp] theorem Tlb.noteAccess_limit (d : Side) (t : Tlb) (a : Word) : (Tlb.noteAccess d t a).limit = t.limit := by unfold Tlb.noteAccess; cases d <;> rfl

/-- A store to TLB_ASID sets the address space. -/
@[simp] theorem Tlb.setAsid_asid (t : Tlb) (v : BitVec 8) : (t.setAsid v).asid = v := by
  unfold Tlb.setAsid
  dsimp only
  split
  · rename_i h; simp [h]
  · rfl

/-! ## Registers after a write -/

/-- R0 reads as zero whatever was written. -/
@[simp] theorem r_zero (s : State) : s.r 0#6 = 0#32 := rfl

/-- A register after a write: the value in the destination, unless that is R0; the rest as before. -/
theorem r_writeR (s : State) (d r : GReg) (v : Word) : (s.writeR d v).r r = if r = d ∧ d ≠ 0#6 then v else s.r r := by
  by_cases hr : r = 0#6
  · subst hr; by_cases hd : d = 0#6 <;> simp [State.r, hd, eq_comm]
  · by_cases hd : d = 0#6
    · subst hd; simp [State.r, setGpr, hr]
    · by_cases h : r = d
      · subst h; simp [State.r, setGpr, hd]
      · have : d.toNat ≠ r.toNat := fun e => h (BitVec.eq_of_toNat_eq e.symm)
        simp [State.r, setGpr, hr, hd, h, this]

/-- The destination of a write, R0 apart, holds the value. -/
theorem r_writeR_self (s : State) (d : GReg) (v : Word) (h : d ≠ 0#6) : (s.writeR d v).r d = v := by
  simp [r_writeR, h]

/-- A write to R0 leaves every register. -/
@[simp] theorem r_writeR_zero (s : State) (r : GReg) (v : Word) : (s.writeR 0#6 v).r r = s.r r := by simp [r_writeR]

/-- Registers other than the destination keep their value. -/
theorem r_writeR_ne (s : State) (d r : GReg) (v : Word) (h : r ≠ d) : (s.writeR d v).r r = s.r r := by
  simp [r_writeR, h]

/-- A branch register after a write. -/
theorem b_writeB (s : State) (d c : BReg) (v : Bool) : (s.writeB d v).b c = if c = d then v else s.b c := by
  by_cases h : c = d
  · subst h; simp [State.b, setBr]
  · have : d.toNat ≠ c.toNat := fun e => h (BitVec.eq_of_toNat_eq e.symm)
    simp [State.b, setBr, h, this]

@[simp] theorem b_writeR (s : State) (d : GReg) (v : Word) (c : BReg) : (s.writeR d v).b c = s.b c := rfl
@[simp] theorem r_writeB (s : State) (d : BReg) (v : Bool) (r : GReg) : (s.writeB d v).r r = s.r r := rfl
@[simp] theorem r_jump (s : State) (w : Word) (r : GReg) : (s.jump w).r r = s.r r := rfl
@[simp] theorem b_jump (s : State) (w : Word) (c : BReg) : (s.jump w).b c = s.b c := rfl
@[simp] theorem r_trapEntry (x : Raise) (s : State) (r : GReg) : (trapEntry x s).r r = s.r r := rfl
@[simp] theorem b_trapEntry (x : Raise) (s : State) (c : BReg) : (trapEntry x s).b c = s.b c := rfl

end Sys2Proof.Machine
end

