-- ==== Sys2Proof/Laws/Ops.lean ====
section
/-! SUPPORT. For each shared operation one lemma that says everything it can do when it answers a next state. -/

namespace Sys2Proof.Machine

/-! ## Outcomes -/

theorem next_inj {s t : State} (h : (Host.Outcome.next s : Host.Outcome State Fault Refusal) = .next t) : s = t := by
  cases h; rfl

theorem raised_eq {r : Raise} {s t : State} (h : raised r s = .next t) : t = trapEntry r s := (next_inj h).symm

/-- A privileged operation raises ILL_INST in user mode and has its effect in supervisor mode. -/
theorem privileged_cases {s t : State} {e : Host.Outcome State Fault Refusal} (h : privileged s e = .next t) :
    (s.userMode = true ∧ t = trapEntry (.plain .illInst) s) ∨ (s.userMode = false ∧ e = .next t) := by
  unfold privileged at h
  split at h
  · exact .inl ⟨‹_›, raised_eq h⟩
  · exact .inr ⟨Bool.eq_false_iff.2 ‹_›, h⟩

/-! ## The PSW -/

/-- Writing the PSW leaves its reserved bits zero. -/
theorem pswWrite_reserved (old new : Word) : pswWrite old new &&& ~~~pswWritable = 0#32 := by
  unfold pswWrite
  split
  · rw [BitVec.and_assoc]; exact BitVec.and_zero
  · rw [BitVec.and_assoc, BitVec.and_assoc]; exact BitVec.and_zero

/-- Trap entry keeps the reserved bits of the PSW zero. -/
theorem trapPsw_reserved {psw : Word} (h : psw &&& ~~~pswWritable = 0#32) : trapPsw psw &&& ~~~pswWritable = 0#32 := by
  unfold trapPsw
  rw [BitVec.and_assoc, BitVec.and_comm (~~~0x00000303#32), ← BitVec.and_assoc, h, BitVec.zero_and]

/-- Debug entry keeps the reserved bits of the PSW zero. -/
theorem debugPsw_reserved {psw : Word} (h : psw &&& ~~~pswWritable = 0#32) : debugPsw psw &&& ~~~pswWritable = 0#32 := by
  unfold debugPsw
  rw [BitVec.and_or_distrib_right, BitVec.and_assoc, BitVec.and_comm (~~~0x00000307#32), ← BitVec.and_assoc, h,
    BitVec.zero_and]
  rfl

/-- A value on its way into the PC is word aligned. -/
theorem toPc_aligned (w : Word) : toPc w &&& 3#32 = 0#32 := by
  unfold toPc
  rw [BitVec.and_assoc]
  exact BitVec.and_zero

/-! ## Data accesses -/

/-- A store to memory changes memory and puts one record at the head of those of stored words. -/
theorem storeMem_cases (s : State) (w : Width) (cached : Bool) (pa v : Word) :
    storeMem s w cached pa v = { s with
      mem := memStore s.cfg.bigEndian s.mem w pa v
      stale := staleRecord (wordAt s pa) w cached pa :: s.stale } := rfl

/-- Writing external memory leaves a ROM alone, and else stores. -/
theorem externalWrite_cases (s : State) (w : Width) (cached : Bool) (pa v : Word) :
    (romAt s.cfg pa = true ∧ externalWrite s w cached pa v = s) ∨
    (romAt s.cfg pa = false ∧ externalWrite s w cached pa v = storeMem s w cached pa v) := by
  unfold externalWrite
  cases romAt s.cfg pa
  · exact .inr ⟨rfl, rfl⟩
  · exact .inl ⟨rfl, rfl⟩

/-- An uncached access to memory moves records of stored words on, and changes nothing else. -/
theorem touchLine_cases (f : StaleWord → Word → StaleWord) (cached : Bool) (pa : Word) (s : State) :
    (cached = false ∧ windowOf s.cfg pa = .memory ∧
      touchLine f cached pa s = { s with stale := s.stale.map (fun x => f x pa) }) ∨
    ((cached = true ∨ windowOf s.cfg pa ≠ .memory) ∧ touchLine f cached pa s = s) := by
  unfold touchLine
  split
  · rename_i h
    exact .inl ⟨h.1, h.2, rfl⟩
  · rename_i h
    refine .inr ⟨?_, rfl⟩
    cases cached
    · exact .inr (fun hw => h ⟨rfl, hw⟩)
    · exact .inl rfl

/-- What a data write of the bus can do: it writes a register of the peripheral block, is ignored by the debug ROM,
raises a bus error, or writes external memory. -/
theorem busWrite_cases (s : State) (w : Width) (cached : Bool) (pa v : Word) :
    (∃ off, windowOf s.cfg pa = .intc off ∧ w = .word ∧ busWrite s w cached pa v = intcWrite s off v) ∨
    (∃ off, windowOf s.cfg pa = .dsu off ∧ w = .word ∧ busWrite s w cached pa v = dsuWrite s off v) ∨
    (∃ off, windowOf s.cfg pa = .rom off ∧ w = .word ∧ busWrite s w cached pa v = s) ∨
    (windowOf s.cfg pa ≠ .memory ∧ w ≠ .word ∧ busWrite s w cached pa v = { s with busErrorPending := true }) ∨
    (windowOf s.cfg pa = .memory ∧ ∃ t, t = touchLine StaleWord.purgeLine cached pa s ∧
      ((busWriteError s.cfg pa = false ∧ busWrite s w cached pa v = externalWrite t w cached pa v) ∨
       (busWriteError s.cfg pa = true ∧
        (busWrite s w cached pa v = { t with busErrorPending := true } ∨
         busWrite s w cached pa v = { externalWrite t w cached pa v with busErrorPending := true })))) := by
  unfold busWrite
  cases hw : windowOf s.cfg pa with
  | intc off => by_cases h : w = .word <;> simp [h]
  | dsu off => by_cases h : w = .word <;> simp [h]
  | rom off => by_cases h : w = .word <;> simp [h]
  | memory =>
    refine .inr (.inr (.inr (.inr ⟨rfl, _, rfl, ?_⟩)))
    by_cases h : busWriteError s.cfg pa = true
    · simp only [h, if_true]
      split <;> simp
    · simp [h]

/-- A read at commit writes the destination; after a bus error the value is free and the error pending. -/
theorem dataRead_cases (w : Width) (ext : Word → Word) (a : Word) (d : GReg) (s : State) :
    ∃ t, t = touchLine StaleWord.readLine (cachedAccess s a) (translate s a) s ∧
    ((∃ v, busRead s w (cachedAccess s a) (translate s a) = some v ∧ dataRead w ext a d s = t.writeR d (ext v)) ∨
     (busRead s w (cachedAccess s a) (translate s a) = none ∧
       dataRead w ext a d s = { t.writeR d (Config.freeLoadValue s.free) with busErrorPending := true })) := by
  refine ⟨_, rfl, ?_⟩
  unfold dataRead
  cases h : busRead s w (cachedAccess s a) (translate s a) with
  | none => exact .inr ⟨rfl, rfl⟩
  | some v => exact .inl ⟨v, rfl, rfl⟩

/-- A dismissible load at commit gives 0 or reads. -/
theorem disRead_cases (w : Width) (ext : Word → Word) (a : Word) (d : GReg) (s : State) :
    (dismissed w a s = true ∧ disRead w ext a d s = s.writeR d 0#32) ∨
    (dismissed w a s = false ∧ scuHit s (translate s a) = true ∧ disRead w ext a d s = dataRead w ext a d s) ∨
    (dismissed w a s = false ∧ scuHit s (translate s a) = false ∧
      disRead w ext a d s =
        (touchLine StaleWord.purgeLine (cachedAccess s a) (translate s a) s).writeR d 0#32) := by
  unfold disRead
  cases dismissed w a s <;> cases scuHit s (translate s a) <;> simp

/-- What a prefetch can do: nothing, or it reports the bus error its line fill met. -/
theorem prefetch_cases (a : Word) (s : State) :
    prefetch a s = s ∨ (prefetchMayFail a s = true ∧ prefetch a s = { s with busErrorPending := true }) := by
  unfold prefetch
  split
  · rename_i h
    rw [Bool.and_eq_true] at h
    exact .inr ⟨h.1, rfl⟩
  · exact .inl rfl

/-- What a normal load can do. -/
theorem loadOp_cases {w : Width} {ext : Word → Word} {d src1 : GReg} {isrc2 : Imm9} {s t : State}
    (h : loadOp w ext d src1 isrc2 s = .next t) :
    (isDBreakHit s (s.ea src1 isrc2) = true ∧ t = trapEntry (.at .dbreak (s.ea src1 isrc2)) s) ∨
    (isDBreakHit s (s.ea src1 isrc2) = false ∧ isCRegSpace (s.ea src1 isrc2) = true ∧
      ((w = .word ∧ cregLoad (s.ea src1 isrc2) d s = .next t) ∨
       (w ≠ .word ∧ t = trapEntry (.at .cregAccessViolation (s.ea src1 isrc2)) s))) ∨
    (isDBreakHit s (s.ea src1 isrc2) = false ∧ isCRegSpace (s.ea src1 isrc2) = false ∧
      ((∃ e, readCheck w (s.ea src1 isrc2) s = some e ∧ t = trapEntry e s) ∨
       (readCheck w (s.ea src1 isrc2) s = none ∧ t = dataRead w ext (s.ea src1 isrc2) d s))) := by
  unfold loadOp at h
  dsimp only at h
  split at h
  · exact .inl ⟨‹_›, raised_eq h⟩
  · rename_i hb
    replace hb : isDBreakHit s (s.ea src1 isrc2) = false := by simpa using hb
    split at h
    · refine .inr (.inl ⟨hb, ‹_›, ?_⟩)
      split at h
      · exact .inl ⟨‹_›, h⟩
      · exact .inr ⟨‹_›, raised_eq h⟩
    · refine .inr (.inr ⟨hb, by simpa using ‹¬isCRegSpace _ = true›, ?_⟩)
      split at h
      · exact .inl ⟨_, ‹_›, raised_eq h⟩
      · exact .inr ⟨‹_›, (next_inj h).symm⟩

/-- What a dismissible load can do. -/
theorem disLoadOp_cases {w : Width} {ext : Word → Word} {d src1 : GReg} {isrc2 : Imm9} {s t : State}
    (h : disLoadOp w ext d src1 isrc2 s = .next t) :
    (isDBreakHit s (s.ea src1 isrc2) = true ∧ t = trapEntry (.at .dbreak (s.ea src1 isrc2)) s) ∨
    (isDBreakHit s (s.ea src1 isrc2) = false ∧ isCRegSpace (s.ea src1 isrc2) = true ∧ t = s.writeR d 0#32) ∨
    (isDBreakHit s (s.ea src1 isrc2) = false ∧ isCRegSpace (s.ea src1 isrc2) = false ∧
      ((∃ e, disReadCheck w (s.ea src1 isrc2) s = some e ∧ t = trapEntry e s) ∨
       (disReadCheck w (s.ea src1 isrc2) s = none ∧ t = disRead w ext (s.ea src1 isrc2) d s))) := by
  unfold disLoadOp at h
  dsimp only at h
  split at h
  · exact .inl ⟨‹_›, raised_eq h⟩
  · rename_i hb
    replace hb : isDBreakHit s (s.ea src1 isrc2) = false := by simpa using hb
    split at h
    · exact .inr (.inl ⟨hb, ‹_›, (next_inj h).symm⟩)
    · refine .inr (.inr ⟨hb, by simpa using ‹¬isCRegSpace _ = true›, ?_⟩)
      split at h
      · exact .inl ⟨_, ‹_›, raised_eq h⟩
      · exact .inr ⟨‹_›, (next_inj h).symm⟩

/-- What a store can do. -/
theorem storeOp_cases {w : Width} {src2 src1 : GReg} {isrc2 : Imm9} {s t : State}
    (h : storeOp w src2 src1 isrc2 s = .next t) :
    (isDBreakHit s (s.ea src1 isrc2) = true ∧ t = trapEntry (.at .dbreak (s.ea src1 isrc2)) s) ∨
    (isDBreakHit s (s.ea src1 isrc2) = false ∧ isCRegSpace (s.ea src1 isrc2) = true ∧
      ((w = .word ∧ cregStore (s.ea src1 isrc2) (s.r src2) s = .next t) ∨
       (w ≠ .word ∧ t = trapEntry (.at .cregAccessViolation (s.ea src1 isrc2)) s))) ∨
    (isDBreakHit s (s.ea src1 isrc2) = false ∧ isCRegSpace (s.ea src1 isrc2) = false ∧
      ((∃ e, writeCheck w (s.ea src1 isrc2) s = some e ∧ t = trapEntry e s) ∨
       (writeCheck w (s.ea src1 isrc2) s = none ∧
         t = busWrite s w (cachedAccess s (s.ea src1 isrc2)) (translate s (s.ea src1 isrc2)) (s.r src2)))) := by
  unfold storeOp at h
  dsimp only at h
  split at h
  · exact .inl ⟨‹_›, raised_eq h⟩
  · rename_i hb
    replace hb : isDBreakHit s (s.ea src1 isrc2) = false := by simpa using hb
    split at h
    · refine .inr (.inl ⟨hb, ‹_›, ?_⟩)
      split at h
      · exact .inl ⟨‹_›, h⟩
      · exact .inr ⟨‹_›, raised_eq h⟩
    · refine .inr (.inr ⟨hb, by simpa using ‹¬isCRegSpace _ = true›, ?_⟩)
      split at h
      · exact .inl ⟨_, ‹_›, raised_eq h⟩
      · exact .inr ⟨‹_›, (next_inj h).symm⟩

/-! ## Control registers -/

/-- What the stall of an SDI access can do: wait, count down and wait, or raise SDI_TIMEOUT. -/
theorem sdiStall_cases {i : Fin 4} {s t : State} (h : sdiStall i s = .next t) :
    (s.sdi[i].timeoutDisable = true ∧ t = { s with signal := .stalled, nextPc := s.pc }) ∨
    (s.sdi[i].timeoutDisable = false ∧ s.sdi[i].timeout = 0#32 ∧
      t = trapEntry (.at .sdiTimeout (sdiDataAddress i)) s) ∨
    (s.sdi[i].timeoutDisable = false ∧ s.sdi[i].timeout ≠ 0#32 ∧
      t = { (s.setSdi i { s.sdi[i] with timeout := s.sdi[i].timeout - 1#32 }) with
            signal := .stalled, nextPc := s.pc }) := by
  unfold sdiStall at h
  dsimp only at h
  split at h
  · exact .inl ⟨‹_›, (next_inj h).symm⟩
  · rename_i hd
    replace hd : s.sdi[i].timeoutDisable = false := by simpa using hd
    split at h
    · exact .inr (.inl ⟨hd, ‹_›, raised_eq h⟩)
    · exact .inr (.inr ⟨hd, ‹_›, (next_inj h).symm⟩)

/-- What a word load of a control register can do. -/
theorem cregLoad_cases {a : Word} {d : GReg} {s t : State} (h : cregLoad a d s = .next t) :
    (∃ e, cregCheck s a = .error e ∧ t = trapEntry e s) ∨
    (∃ i, cregCheck s a = .ok (.sdiData i) ∧ sdiDataLoad i d s = .next t) ∨
    (∃ r, cregCheck s a = .ok r ∧ t = (cregReadEffect s r).writeR d (cregValue s r)) := by
  unfold cregLoad at h
  split at h
  · exact .inl ⟨_, ‹_›, raised_eq h⟩
  · exact .inr (.inl ⟨_, ‹_›, h⟩)
  · exact .inr (.inr ⟨_, ‹_›, (next_inj h).symm⟩)

/-- What a word store to a control register can do. -/
theorem cregStore_cases {a v : Word} {s t : State} (h : cregStore a v s = .next t) :
    (∃ e, cregCheck s a = .error e ∧ t = trapEntry e s) ∨
    (∃ i, cregCheck s a = .ok (.sdiData i) ∧ sdiDataStore i v s = .next t) ∨
    (∃ r, cregCheck s a = .ok r ∧ t = { cregUpdate s r v with cregStored := some r }) := by
  unfold cregStore at h
  split at h
  · exact .inl ⟨_, ‹_›, raised_eq h⟩
  · exact .inr (.inl ⟨_, ‹_›, h⟩)
  · exact .inr (.inr ⟨_, ‹_›, (next_inj h).symm⟩)

/-- What a load of SDIi_DATA can do. -/
theorem sdiDataLoad_cases {i : Fin 4} {d : GReg} {s t : State} (h : sdiDataLoad i d s = .next t) :
    sdiStall i s = .next t ∨
    (s.sdi[i].inReset = true ∧ t = s.writeR d (Config.freeSdiValue s.free)) ∨
    (s.sdi[i].inReset = true ∧ t = (sdiMoved i s.sdi[i].chan.tail s).writeR d (Config.freeSdiValue s.free)) ∨
    (∃ v rest, s.sdi[i].inReset = false ∧ s.cfg.sdi[i].isInput = true ∧ s.sdi[i].chan = v :: rest ∧
      t = (sdiMoved i rest s).writeR d v) ∨
    (s.sdi[i].inReset = false ∧ s.cfg.sdi[i].isInput = false ∧ t = s.writeR d 0#32) := by
  unfold sdiDataLoad at h
  dsimp only at h
  split at h
  · rename_i hr
    split at h
    · exact .inl h
    · refine .inr ?_
      replace h := (next_inj h).symm
      split at h
      · exact .inr (.inl ⟨hr, h⟩)
      · exact .inl ⟨hr, h⟩
  · rename_i hr
    replace hr : s.sdi[i].inReset = false := by simpa using hr
    split at h
    · rename_i hi
      split at h
      · exact .inl h
      · rename_i v rest hc
        exact .inr (.inr (.inr (.inl ⟨v, rest, hr, hi, hc, (next_inj h).symm⟩)))
    · rename_i hi
      exact .inr (.inr (.inr (.inr ⟨hr, by simpa using hi, (next_inj h).symm⟩)))

/-- What a store to SDIi_DATA can do. -/
theorem sdiDataStore_cases {i : Fin 4} {v : Word} {s t : State} (h : sdiDataStore i v s = .next t) :
    sdiStall i s = .next t ∨ t = s ∨
    (s.cfg.sdi[i].isInput = false ∧ s.sdi[i].chan.length < s.cfg.sdi[i].depth ∧
      t = sdiMoved i (s.sdi[i].chan ++ [v]) s) := by
  unfold sdiDataStore at h
  dsimp only at h
  split at h
  · split at h
    · exact .inl h
    · split at h
      · rename_i hc
        simp only [Bool.and_eq_true, Bool.not_eq_true', decide_eq_false_iff_not, Nat.not_le] at hc
        exact .inr (.inr ⟨hc.1.1, hc.1.2, (next_inj h).symm⟩)
      · exact .inr (.inl (next_inj h).symm)
  · split at h
    · exact .inr (.inl (next_inj h).symm)
    · rename_i hi
      split at h
      · exact .inl h
      · rename_i hf
        simp only [decide_eq_true_eq, Nat.not_le] at hf
        exact .inr (.inr ⟨by simpa using hi, hf, (next_inj h).symm⟩)

/-! ## The step -/

/-- What translating addresses leaves of the UTLB: everything but what the micro-TLBs may hold. -/
theorem foldl_noteAccess (d : Side) (as : List Word) (t : Tlb) :
    ∃ h, as.foldl (Tlb.noteAccess d) t = { t with history := h } := by
  induction as generalizing t with
  | nil => exact ⟨t.history, rfl⟩
  | cons a as ih =>
    obtain ⟨h, e⟩ := ih (Tlb.noteAccess d t a)
    exact ⟨h, by rw [List.foldl_cons, e]; cases d <;> rfl⟩

/-- Noting a bundle's accesses changes nothing but what the micro-TLBs may hold. -/
theorem noteAccesses_cases (s : State) :
    (s.tlbEnable = false ∧ noteAccesses s = s) ∨
    (s.tlbEnable = true ∧ ∃ h, noteAccesses s = { s with tlb := { s.tlb with history := h } }) := by
  unfold noteAccesses
  split
  · rename_i he
    obtain ⟨h1, e1⟩ := foldl_noteAccess .fetch (fetchAddresses s) s.tlb
    obtain ⟨h2, e2⟩ := foldl_noteAccess .data
      (dataAddresses (noteFetch s) ((noteFetch s).waiting.getD (fetchBundle (noteFetch s)).words)) (noteFetch s).tlb
    refine .inr ⟨he, h2, ?_⟩
    simp only [noteData, e2]
    simp only [noteFetch, e1]
  · rename_i he
    exact .inl ⟨by simpa using he, rfl⟩

/-- A bus error of the fetch invalidates the line it met; any other end of the fetch changes nothing. -/
theorem dropFailedLine_cases (f : Fetched) (s : State) :
    (∃ r pa, f.error = some r ∧ r.exc = .stbusIcError ∧ translateFetch s (f.failedAt s) = .ok pa ∧
      dropFailedLine f s = { s with stale := s.stale.map (fun x => x.invalidateLine (f.failedAt s) pa) }) ∨
    dropFailedLine f s = s := by
  unfold dropFailedLine
  split
  · exact .inl ⟨_, _, ‹_›, rfl, ‹_›, rfl⟩
  · exact .inr rfl

/-- A taken branch changes the record of stored words alone. -/
theorem refetch_cases (s : State) (is : List Instr) (t : State) :
    (is.any invalidatesPage = true ∧ refetch s is t = clearBufferOf s.stale t) ∨
    (is.any invalidatesPage = false ∧ refetch s is t = clearBuffer t) := by
  unfold refetch
  cases is.any invalidatesPage <;> simp

/-- What a bundle's end brings: hazards run out, with the instruction buffer invalidated if a branch is taken; or the
pipeline is emptied; or nothing, while the bundle waits. -/
theorem settleBundle_cases (s : State) (e : Ending) (t : State) :
    (∃ is, e = .committed is ∧
      ((refetches s is = true ∧ settleBundle s e t = refetch s is (tickHazards t)) ∨
       (refetches s is = false ∧ settleBundle s e t = tickHazards t))) ∨
    (((∃ x, e = .trapped x) ∨ e = .debug) ∧ settleBundle s e t = emptyPipeline t) ∨
    (∃ ws, e = .waiting ws ∧ settleBundle s e t = t) := by
  cases e with
  | committed is =>
    refine .inl ⟨is, rfl, ?_⟩
    cases h : refetches s is
    · exact .inr ⟨rfl, by simp [settleBundle, h]⟩
    · exact .inl ⟨rfl, by simp [settleBundle, h]⟩
  | trapped x => exact .inr (.inl ⟨.inl ⟨x, rfl⟩, rfl⟩)
  | debug => exact .inr (.inl ⟨.inr rfl, rfl⟩)
  | waiting ws => exact .inr (.inr ⟨ws, rfl, rfl⟩)

/-- What the core's step can do: an idle core without a wake event stays; else a waiting bundle takes its next turn, or the
bundle at PC is run. -/
theorem coreStep_cases {s t : State} (h : coreStep s = .next t) :
    (s.coreIdle = true ∧ wakes (sampleTrigger s) = false ∧ t = sampleTrigger s) ∨
    (∃ ws, s.waiting = some ws ∧ stalledStep ws (noteAccesses { sampleTrigger s with coreIdle := false }) = .next t) ∨
    (s.waiting = none ∧ boundaryStep (noteAccesses { sampleTrigger s with coreIdle := false }) = .next t) := by
  unfold coreStep at h
  dsimp only at h
  split at h
  · rename_i hc
    simp only [Bool.and_eq_true, Bool.not_eq_true'] at hc
    exact .inl ⟨hc.1, hc.2, (next_inj h).symm⟩
  · have hw : (noteAccesses { sampleTrigger s with coreIdle := false }).waiting = s.waiting := by
      obtain ⟨-, e⟩ | ⟨-, x, e⟩ := noteAccesses_cases { sampleTrigger s with coreIdle := false } <;> rw [e] <;> rfl
    rw [hw] at h
    split at h
    · exact .inr (.inl ⟨_, ‹_›, h⟩)
    · exact .inr (.inr ⟨‹_›, h⟩)

end Sys2Proof.Machine
end

