-- ==== Sys2Proof/Laws/PerInstr.lean ====
section
/-! SUPPORT. The family Encoding, one lemma per instruction: the encoding of an instruction has bit 30 clear
(30_encoding.md R313), and its stop bit set exactly for `sbrk` (R321), whose row fixes it. -/

namespace Sys2Proof.Laws

/-- Bits 31 and 30 of the encoding of `i`. -/
def Encoding.Statement (i : Instr) : Prop :=
  bitsOf (encode i) 30 2 = if Machine.kindOf i = .sbrk then 2#2 else 0#2

/-! ## Bits 31 and 30 of each format -/

theorem encInt3R_top (op : BitVec 5) (d s2 s1 : GReg) : bitsOf (encInt3R op d s2 s1) 30 2 = 0#2 := by
  simp only [bitsOf, encInt3R, BitVec.extractLsb'_append_eq_ite]; simp

theorem encInt3I_top (op : BitVec 5) (i : Imm9) (d s1 : GReg) : bitsOf (encInt3I op i d s1) 30 2 = 0#2 := by
  simp only [bitsOf, encInt3I, BitVec.extractLsb'_append_eq_ite]; simp

theorem encMonadic_top (sub : BitVec 9) (d s1 : GReg) : bitsOf (encMonadic sub d s1) 30 2 = 0#2 := by
  simp only [bitsOf, encMonadic, BitVec.extractLsb'_append_eq_ite]; simp

theorem encCmpRR_top (op : BitVec 5) (d s2 s1 : GReg) : bitsOf (encCmpRR op d s2 s1) 30 2 = 0#2 := by
  simp only [bitsOf, encCmpRR, BitVec.extractLsb'_append_eq_ite]; simp

theorem encCmpBR_top (op : BitVec 5) (b : BReg) (s2 s1 : GReg) : bitsOf (encCmpBR op b s2 s1) 30 2 = 0#2 := by
  simp only [bitsOf, encCmpBR, BitVec.extractLsb'_append_eq_ite]; simp

theorem encCmpRI_top (op : BitVec 5) (i : Imm9) (d s1 : GReg) : bitsOf (encCmpRI op i d s1) 30 2 = 0#2 := by
  simp only [bitsOf, encCmpRI, BitVec.extractLsb'_append_eq_ite]; simp

theorem encCmpBI_top (op : BitVec 5) (i : Imm9) (b : BReg) (s1 : GReg) : bitsOf (encCmpBI op i b s1) 30 2 = 0#2 := by
  simp only [bitsOf, encCmpBI, BitVec.extractLsb'_append_eq_ite]; simp

theorem encSelR_top (op : BitVec 4) (c : BReg) (d s2 s1 : GReg) : bitsOf (encSelR op c d s2 s1) 30 2 = 0#2 := by
  simp only [bitsOf, encSelR, BitVec.extractLsb'_append_eq_ite]; simp

theorem encSelI_top (op : BitVec 4) (c : BReg) (i : Imm9) (d s1 : GReg) : bitsOf (encSelI op c i d s1) 30 2 = 0#2 := by
  simp only [bitsOf, encSelI, BitVec.extractLsb'_append_eq_ite]; simp

theorem encCgen_top (op : BitVec 4) (c b : BReg) (d s2 s1 : GReg) : bitsOf (encCgen op c b d s2 s1) 30 2 = 0#2 := by
  simp only [bitsOf, encCgen, BitVec.extractLsb'_append_eq_ite]; simp

theorem encImm_top (op : BitVec 5) (x : Imm23) : bitsOf (encImm op x) 30 2 = 0#2 := by
  simp only [bitsOf, encImm, BitVec.extractLsb'_append_eq_ite]; simp

theorem encSys_top (stop : BitVec 1) (op : BitVec 7) (n : Imm21) : bitsOf (encSys stop op n) 30 2 = stop ++ 0#1 := by
  simp only [bitsOf, encSys, BitVec.extractLsb'_append_eq_ite]; simp

theorem encMem_top (op : BitVec 5) (i : Imm9) (m s1 : GReg) : bitsOf (encMem op i m s1) 30 2 = 0#2 := by
  simp only [bitsOf, encMem, BitVec.extractLsb'_append_eq_ite]; simp

theorem encCall_top (op : BitVec 5) (t : Imm23) : bitsOf (encCall op t) 30 2 = 0#2 := by
  simp only [bitsOf, encCall, BitVec.extractLsb'_append_eq_ite]; simp

theorem encBranch_top (op : BitVec 2) (c : BReg) (t : Imm23) : bitsOf (encBranch op c t) 30 2 = 0#2 := by
  simp only [bitsOf, encBranch, BitVec.extractLsb'_append_eq_ite]; simp

/-! ## Each instruction -/

theorem Encoding.addR (dest : GReg) (src1 : GReg) (src2 : GReg) : Encoding.Statement (.addR dest src1 src2) := encInt3R_top _ _ _ _
theorem Encoding.addI (idest : GReg) (src1 : GReg) (isrc2 : Imm9) : Encoding.Statement (.addI idest src1 isrc2) := encInt3I_top _ _ _ _
theorem Encoding.subR (dest : GReg) (src1 : GReg) (src2 : GReg) : Encoding.Statement (.subR dest src1 src2) := encInt3R_top _ _ _ _
theorem Encoding.subI (idest : GReg) (src1 : GReg) (isrc2 : Imm9) : Encoding.Statement (.subI idest src1 isrc2) := encInt3I_top _ _ _ _
theorem Encoding.shlR (dest : GReg) (src1 : GReg) (src2 : GReg) : Encoding.Statement (.shlR dest src1 src2) := encInt3R_top _ _ _ _
theorem Encoding.shlI (idest : GReg) (src1 : GReg) (isrc2 : Imm9) : Encoding.Statement (.shlI idest src1 isrc2) := encInt3I_top _ _ _ _
theorem Encoding.shrR (dest : GReg) (src1 : GReg) (src2 : GReg) : Encoding.Statement (.shrR dest src1 src2) := encInt3R_top _ _ _ _
theorem Encoding.shrI (idest : GReg) (src1 : GReg) (isrc2 : Imm9) : Encoding.Statement (.shrI idest src1 isrc2) := encInt3I_top _ _ _ _
theorem Encoding.shruR (dest : GReg) (src1 : GReg) (src2 : GReg) : Encoding.Statement (.shruR dest src1 src2) := encInt3R_top _ _ _ _
theorem Encoding.shruI (idest : GReg) (src1 : GReg) (isrc2 : Imm9) : Encoding.Statement (.shruI idest src1 isrc2) := encInt3I_top _ _ _ _
theorem Encoding.sh1addR (dest : GReg) (src1 : GReg) (src2 : GReg) : Encoding.Statement (.sh1addR dest src1 src2) := encInt3R_top _ _ _ _
theorem Encoding.sh1addI (idest : GReg) (src1 : GReg) (isrc2 : Imm9) : Encoding.Statement (.sh1addI idest src1 isrc2) := encInt3I_top _ _ _ _
theorem Encoding.sh2addR (dest : GReg) (src1 : GReg) (src2 : GReg) : Encoding.Statement (.sh2addR dest src1 src2) := encInt3R_top _ _ _ _
theorem Encoding.sh2addI (idest : GReg) (src1 : GReg) (isrc2 : Imm9) : Encoding.Statement (.sh2addI idest src1 isrc2) := encInt3I_top _ _ _ _
theorem Encoding.sh3addR (dest : GReg) (src1 : GReg) (src2 : GReg) : Encoding.Statement (.sh3addR dest src1 src2) := encInt3R_top _ _ _ _
theorem Encoding.sh3addI (idest : GReg) (src1 : GReg) (isrc2 : Imm9) : Encoding.Statement (.sh3addI idest src1 isrc2) := encInt3I_top _ _ _ _
theorem Encoding.sh4addR (dest : GReg) (src1 : GReg) (src2 : GReg) : Encoding.Statement (.sh4addR dest src1 src2) := encInt3R_top _ _ _ _
theorem Encoding.sh4addI (idest : GReg) (src1 : GReg) (isrc2 : Imm9) : Encoding.Statement (.sh4addI idest src1 isrc2) := encInt3I_top _ _ _ _
theorem Encoding.andR (dest : GReg) (src1 : GReg) (src2 : GReg) : Encoding.Statement (.andR dest src1 src2) := encInt3R_top _ _ _ _
theorem Encoding.andI (idest : GReg) (src1 : GReg) (isrc2 : Imm9) : Encoding.Statement (.andI idest src1 isrc2) := encInt3I_top _ _ _ _
theorem Encoding.andcR (dest : GReg) (src1 : GReg) (src2 : GReg) : Encoding.Statement (.andcR dest src1 src2) := encInt3R_top _ _ _ _
theorem Encoding.andcI (idest : GReg) (src1 : GReg) (isrc2 : Imm9) : Encoding.Statement (.andcI idest src1 isrc2) := encInt3I_top _ _ _ _
theorem Encoding.orR (dest : GReg) (src1 : GReg) (src2 : GReg) : Encoding.Statement (.orR dest src1 src2) := encInt3R_top _ _ _ _
theorem Encoding.orI (idest : GReg) (src1 : GReg) (isrc2 : Imm9) : Encoding.Statement (.orI idest src1 isrc2) := encInt3I_top _ _ _ _
theorem Encoding.orcR (dest : GReg) (src1 : GReg) (src2 : GReg) : Encoding.Statement (.orcR dest src1 src2) := encInt3R_top _ _ _ _
theorem Encoding.orcI (idest : GReg) (src1 : GReg) (isrc2 : Imm9) : Encoding.Statement (.orcI idest src1 isrc2) := encInt3I_top _ _ _ _
theorem Encoding.xorR (dest : GReg) (src1 : GReg) (src2 : GReg) : Encoding.Statement (.xorR dest src1 src2) := encInt3R_top _ _ _ _
theorem Encoding.xorI (idest : GReg) (src1 : GReg) (isrc2 : Imm9) : Encoding.Statement (.xorI idest src1 isrc2) := encInt3I_top _ _ _ _
theorem Encoding.mullhusR (nldest : GReg) (src1 : GReg) (src2 : GReg) : Encoding.Statement (.mullhusR nldest src1 src2) := encInt3R_top _ _ _ _
theorem Encoding.mullhusI (nlidest : GReg) (src1 : GReg) (isrc2 : Imm9) : Encoding.Statement (.mullhusI nlidest src1 isrc2) := encInt3I_top _ _ _ _
theorem Encoding.maxR (dest : GReg) (src1 : GReg) (src2 : GReg) : Encoding.Statement (.maxR dest src1 src2) := encInt3R_top _ _ _ _
theorem Encoding.maxI (idest : GReg) (src1 : GReg) (isrc2 : Imm9) : Encoding.Statement (.maxI idest src1 isrc2) := encInt3I_top _ _ _ _
theorem Encoding.maxuR (dest : GReg) (src1 : GReg) (src2 : GReg) : Encoding.Statement (.maxuR dest src1 src2) := encInt3R_top _ _ _ _
theorem Encoding.maxuI (idest : GReg) (src1 : GReg) (isrc2 : Imm9) : Encoding.Statement (.maxuI idest src1 isrc2) := encInt3I_top _ _ _ _
theorem Encoding.minR (dest : GReg) (src1 : GReg) (src2 : GReg) : Encoding.Statement (.minR dest src1 src2) := encInt3R_top _ _ _ _
theorem Encoding.minI (idest : GReg) (src1 : GReg) (isrc2 : Imm9) : Encoding.Statement (.minI idest src1 isrc2) := encInt3I_top _ _ _ _
theorem Encoding.minuR (dest : GReg) (src1 : GReg) (src2 : GReg) : Encoding.Statement (.minuR dest src1 src2) := encInt3R_top _ _ _ _
theorem Encoding.minuI (idest : GReg) (src1 : GReg) (isrc2 : Imm9) : Encoding.Statement (.minuI idest src1 isrc2) := encInt3I_top _ _ _ _
theorem Encoding.mulhhsR (nldest : GReg) (src1 : GReg) (src2 : GReg) : Encoding.Statement (.mulhhsR nldest src1 src2) := encInt3R_top _ _ _ _
theorem Encoding.mulhhsI (nlidest : GReg) (src1 : GReg) (isrc2 : Imm9) : Encoding.Statement (.mulhhsI nlidest src1 isrc2) := encInt3I_top _ _ _ _
theorem Encoding.mullR (nldest : GReg) (src1 : GReg) (src2 : GReg) : Encoding.Statement (.mullR nldest src1 src2) := encInt3R_top _ _ _ _
theorem Encoding.mullI (nlidest : GReg) (src1 : GReg) (isrc2 : Imm9) : Encoding.Statement (.mullI nlidest src1 isrc2) := encInt3I_top _ _ _ _
theorem Encoding.mulluR (nldest : GReg) (src1 : GReg) (src2 : GReg) : Encoding.Statement (.mulluR nldest src1 src2) := encInt3R_top _ _ _ _
theorem Encoding.mulluI (nlidest : GReg) (src1 : GReg) (isrc2 : Imm9) : Encoding.Statement (.mulluI nlidest src1 isrc2) := encInt3I_top _ _ _ _
theorem Encoding.mulhR (nldest : GReg) (src1 : GReg) (src2 : GReg) : Encoding.Statement (.mulhR nldest src1 src2) := encInt3R_top _ _ _ _
theorem Encoding.mulhI (nlidest : GReg) (src1 : GReg) (isrc2 : Imm9) : Encoding.Statement (.mulhI nlidest src1 isrc2) := encInt3I_top _ _ _ _
theorem Encoding.mulhuR (nldest : GReg) (src1 : GReg) (src2 : GReg) : Encoding.Statement (.mulhuR nldest src1 src2) := encInt3R_top _ _ _ _
theorem Encoding.mulhuI (nlidest : GReg) (src1 : GReg) (isrc2 : Imm9) : Encoding.Statement (.mulhuI nlidest src1 isrc2) := encInt3I_top _ _ _ _
theorem Encoding.mulllR (nldest : GReg) (src1 : GReg) (src2 : GReg) : Encoding.Statement (.mulllR nldest src1 src2) := encInt3R_top _ _ _ _
theorem Encoding.mulllI (nlidest : GReg) (src1 : GReg) (isrc2 : Imm9) : Encoding.Statement (.mulllI nlidest src1 isrc2) := encInt3I_top _ _ _ _
theorem Encoding.mullluR (nldest : GReg) (src1 : GReg) (src2 : GReg) : Encoding.Statement (.mullluR nldest src1 src2) := encInt3R_top _ _ _ _
theorem Encoding.mullluI (nlidest : GReg) (src1 : GReg) (isrc2 : Imm9) : Encoding.Statement (.mullluI nlidest src1 isrc2) := encInt3I_top _ _ _ _
theorem Encoding.mullhR (nldest : GReg) (src1 : GReg) (src2 : GReg) : Encoding.Statement (.mullhR nldest src1 src2) := encInt3R_top _ _ _ _
theorem Encoding.mullhI (nlidest : GReg) (src1 : GReg) (isrc2 : Imm9) : Encoding.Statement (.mullhI nlidest src1 isrc2) := encInt3I_top _ _ _ _
theorem Encoding.mullhuR (nldest : GReg) (src1 : GReg) (src2 : GReg) : Encoding.Statement (.mullhuR nldest src1 src2) := encInt3R_top _ _ _ _
theorem Encoding.mullhuI (nlidest : GReg) (src1 : GReg) (isrc2 : Imm9) : Encoding.Statement (.mullhuI nlidest src1 isrc2) := encInt3I_top _ _ _ _
theorem Encoding.mulhhR (nldest : GReg) (src1 : GReg) (src2 : GReg) : Encoding.Statement (.mulhhR nldest src1 src2) := encInt3R_top _ _ _ _
theorem Encoding.mulhhI (nlidest : GReg) (src1 : GReg) (isrc2 : Imm9) : Encoding.Statement (.mulhhI nlidest src1 isrc2) := encInt3I_top _ _ _ _
theorem Encoding.mulhhuR (nldest : GReg) (src1 : GReg) (src2 : GReg) : Encoding.Statement (.mulhhuR nldest src1 src2) := encInt3R_top _ _ _ _
theorem Encoding.mulhhuI (nlidest : GReg) (src1 : GReg) (isrc2 : Imm9) : Encoding.Statement (.mulhhuI nlidest src1 isrc2) := encInt3I_top _ _ _ _
theorem Encoding.mulhsR (nldest : GReg) (src1 : GReg) (src2 : GReg) : Encoding.Statement (.mulhsR nldest src1 src2) := encInt3R_top _ _ _ _
theorem Encoding.mulhsI (nlidest : GReg) (src1 : GReg) (isrc2 : Imm9) : Encoding.Statement (.mulhsI nlidest src1 isrc2) := encInt3I_top _ _ _ _
theorem Encoding.sxtb (idest : GReg) (src1 : GReg) : Encoding.Statement (.sxtb idest src1) := encMonadic_top _ _ _
theorem Encoding.sxth (idest : GReg) (src1 : GReg) : Encoding.Statement (.sxth idest src1) := encMonadic_top _ _ _
theorem Encoding.bswap (idest : GReg) (src1 : GReg) : Encoding.Statement (.bswap idest src1) := encMonadic_top _ _ _
theorem Encoding.zxth (idest : GReg) (src1 : GReg) : Encoding.Statement (.zxth idest src1) := encMonadic_top _ _ _
theorem Encoding.clz (idest : GReg) (src1 : GReg) : Encoding.Statement (.clz idest src1) := encMonadic_top _ _ _
theorem Encoding.cmpeqRR (dest : GReg) (src1 : GReg) (src2 : GReg) : Encoding.Statement (.cmpeqRR dest src1 src2) := encCmpRR_top _ _ _ _
theorem Encoding.cmpeqBR (bdest : BReg) (src1 : GReg) (src2 : GReg) : Encoding.Statement (.cmpeqBR bdest src1 src2) := encCmpBR_top _ _ _ _
theorem Encoding.cmpeqRI (idest : GReg) (src1 : GReg) (isrc2 : Imm9) : Encoding.Statement (.cmpeqRI idest src1 isrc2) := encCmpRI_top _ _ _ _
theorem Encoding.cmpeqBI (ibdest : BReg) (src1 : GReg) (isrc2 : Imm9) : Encoding.Statement (.cmpeqBI ibdest src1 isrc2) := encCmpBI_top _ _ _ _
theorem Encoding.cmpneRR (dest : GReg) (src1 : GReg) (src2 : GReg) : Encoding.Statement (.cmpneRR dest src1 src2) := encCmpRR_top _ _ _ _
theorem Encoding.cmpneBR (bdest : BReg) (src1 : GReg) (src2 : GReg) : Encoding.Statement (.cmpneBR bdest src1 src2) := encCmpBR_top _ _ _ _
theorem Encoding.cmpneRI (idest : GReg) (src1 : GReg) (isrc2 : Imm9) : Encoding.Statement (.cmpneRI idest src1 isrc2) := encCmpRI_top _ _ _ _
theorem Encoding.cmpneBI (ibdest : BReg) (src1 : GReg) (isrc2 : Imm9) : Encoding.Statement (.cmpneBI ibdest src1 isrc2) := encCmpBI_top _ _ _ _
theorem Encoding.cmpgeRR (dest : GReg) (src1 : GReg) (src2 : GReg) : Encoding.Statement (.cmpgeRR dest src1 src2) := encCmpRR_top _ _ _ _
theorem Encoding.cmpgeBR (bdest : BReg) (src1 : GReg) (src2 : GReg) : Encoding.Statement (.cmpgeBR bdest src1 src2) := encCmpBR_top _ _ _ _
theorem Encoding.cmpgeRI (idest : GReg) (src1 : GReg) (isrc2 : Imm9) : Encoding.Statement (.cmpgeRI idest src1 isrc2) := encCmpRI_top _ _ _ _
theorem Encoding.cmpgeBI (ibdest : BReg) (src1 : GReg) (isrc2 : Imm9) : Encoding.Statement (.cmpgeBI ibdest src1 isrc2) := encCmpBI_top _ _ _ _
theorem Encoding.cmpgeuRR (dest : GReg) (src1 : GReg) (src2 : GReg) : Encoding.Statement (.cmpgeuRR dest src1 src2) := encCmpRR_top _ _ _ _
theorem Encoding.cmpgeuBR (bdest : BReg) (src1 : GReg) (src2 : GReg) : Encoding.Statement (.cmpgeuBR bdest src1 src2) := encCmpBR_top _ _ _ _
theorem Encoding.cmpgeuRI (idest : GReg) (src1 : GReg) (isrc2 : Imm9) : Encoding.Statement (.cmpgeuRI idest src1 isrc2) := encCmpRI_top _ _ _ _
theorem Encoding.cmpgeuBI (ibdest : BReg) (src1 : GReg) (isrc2 : Imm9) : Encoding.Statement (.cmpgeuBI ibdest src1 isrc2) := encCmpBI_top _ _ _ _
theorem Encoding.cmpgtRR (dest : GReg) (src1 : GReg) (src2 : GReg) : Encoding.Statement (.cmpgtRR dest src1 src2) := encCmpRR_top _ _ _ _
theorem Encoding.cmpgtBR (bdest : BReg) (src1 : GReg) (src2 : GReg) : Encoding.Statement (.cmpgtBR bdest src1 src2) := encCmpBR_top _ _ _ _
theorem Encoding.cmpgtRI (idest : GReg) (src1 : GReg) (isrc2 : Imm9) : Encoding.Statement (.cmpgtRI idest src1 isrc2) := encCmpRI_top _ _ _ _
theorem Encoding.cmpgtBI (ibdest : BReg) (src1 : GReg) (isrc2 : Imm9) : Encoding.Statement (.cmpgtBI ibdest src1 isrc2) := encCmpBI_top _ _ _ _
theorem Encoding.cmpgtuRR (dest : GReg) (src1 : GReg) (src2 : GReg) : Encoding.Statement (.cmpgtuRR dest src1 src2) := encCmpRR_top _ _ _ _
theorem Encoding.cmpgtuBR (bdest : BReg) (src1 : GReg) (src2 : GReg) : Encoding.Statement (.cmpgtuBR bdest src1 src2) := encCmpBR_top _ _ _ _
theorem Encoding.cmpgtuRI (idest : GReg) (src1 : GReg) (isrc2 : Imm9) : Encoding.Statement (.cmpgtuRI idest src1 isrc2) := encCmpRI_top _ _ _ _
theorem Encoding.cmpgtuBI (ibdest : BReg) (src1 : GReg) (isrc2 : Imm9) : Encoding.Statement (.cmpgtuBI ibdest src1 isrc2) := encCmpBI_top _ _ _ _
theorem Encoding.cmpleRR (dest : GReg) (src1 : GReg) (src2 : GReg) : Encoding.Statement (.cmpleRR dest src1 src2) := encCmpRR_top _ _ _ _
theorem Encoding.cmpleBR (bdest : BReg) (src1 : GReg) (src2 : GReg) : Encoding.Statement (.cmpleBR bdest src1 src2) := encCmpBR_top _ _ _ _
theorem Encoding.cmpleRI (idest : GReg) (src1 : GReg) (isrc2 : Imm9) : Encoding.Statement (.cmpleRI idest src1 isrc2) := encCmpRI_top _ _ _ _
theorem Encoding.cmpleBI (ibdest : BReg) (src1 : GReg) (isrc2 : Imm9) : Encoding.Statement (.cmpleBI ibdest src1 isrc2) := encCmpBI_top _ _ _ _
theorem Encoding.cmpleuRR (dest : GReg) (src1 : GReg) (src2 : GReg) : Encoding.Statement (.cmpleuRR dest src1 src2) := encCmpRR_top _ _ _ _
theorem Encoding.cmpleuBR (bdest : BReg) (src1 : GReg) (src2 : GReg) : Encoding.Statement (.cmpleuBR bdest src1 src2) := encCmpBR_top _ _ _ _
theorem Encoding.cmpleuRI (idest : GReg) (src1 : GReg) (isrc2 : Imm9) : Encoding.Statement (.cmpleuRI idest src1 isrc2) := encCmpRI_top _ _ _ _
theorem Encoding.cmpleuBI (ibdest : BReg) (src1 : GReg) (isrc2 : Imm9) : Encoding.Statement (.cmpleuBI ibdest src1 isrc2) := encCmpBI_top _ _ _ _
theorem Encoding.cmpltRR (dest : GReg) (src1 : GReg) (src2 : GReg) : Encoding.Statement (.cmpltRR dest src1 src2) := encCmpRR_top _ _ _ _
theorem Encoding.cmpltBR (bdest : BReg) (src1 : GReg) (src2 : GReg) : Encoding.Statement (.cmpltBR bdest src1 src2) := encCmpBR_top _ _ _ _
theorem Encoding.cmpltRI (idest : GReg) (src1 : GReg) (isrc2 : Imm9) : Encoding.Statement (.cmpltRI idest src1 isrc2) := encCmpRI_top _ _ _ _
theorem Encoding.cmpltBI (ibdest : BReg) (src1 : GReg) (isrc2 : Imm9) : Encoding.Statement (.cmpltBI ibdest src1 isrc2) := encCmpBI_top _ _ _ _
theorem Encoding.cmpltuRR (dest : GReg) (src1 : GReg) (src2 : GReg) : Encoding.Statement (.cmpltuRR dest src1 src2) := encCmpRR_top _ _ _ _
theorem Encoding.cmpltuBR (bdest : BReg) (src1 : GReg) (src2 : GReg) : Encoding.Statement (.cmpltuBR bdest src1 src2) := encCmpBR_top _ _ _ _
theorem Encoding.cmpltuRI (idest : GReg) (src1 : GReg) (isrc2 : Imm9) : Encoding.Statement (.cmpltuRI idest src1 isrc2) := encCmpRI_top _ _ _ _
theorem Encoding.cmpltuBI (ibdest : BReg) (src1 : GReg) (isrc2 : Imm9) : Encoding.Statement (.cmpltuBI ibdest src1 isrc2) := encCmpBI_top _ _ _ _
theorem Encoding.andlRR (dest : GReg) (src1 : GReg) (src2 : GReg) : Encoding.Statement (.andlRR dest src1 src2) := encCmpRR_top _ _ _ _
theorem Encoding.andlBR (bdest : BReg) (src1 : GReg) (src2 : GReg) : Encoding.Statement (.andlBR bdest src1 src2) := encCmpBR_top _ _ _ _
theorem Encoding.andlRI (idest : GReg) (src1 : GReg) (isrc2 : Imm9) : Encoding.Statement (.andlRI idest src1 isrc2) := encCmpRI_top _ _ _ _
theorem Encoding.andlBI (ibdest : BReg) (src1 : GReg) (isrc2 : Imm9) : Encoding.Statement (.andlBI ibdest src1 isrc2) := encCmpBI_top _ _ _ _
theorem Encoding.nandlRR (dest : GReg) (src1 : GReg) (src2 : GReg) : Encoding.Statement (.nandlRR dest src1 src2) := encCmpRR_top _ _ _ _
theorem Encoding.nandlBR (bdest : BReg) (src1 : GReg) (src2 : GReg) : Encoding.Statement (.nandlBR bdest src1 src2) := encCmpBR_top _ _ _ _
theorem Encoding.nandlRI (idest : GReg) (src1 : GReg) (isrc2 : Imm9) : Encoding.Statement (.nandlRI idest src1 isrc2) := encCmpRI_top _ _ _ _
theorem Encoding.nandlBI (ibdest : BReg) (src1 : GReg) (isrc2 : Imm9) : Encoding.Statement (.nandlBI ibdest src1 isrc2) := encCmpBI_top _ _ _ _
theorem Encoding.orlRR (dest : GReg) (src1 : GReg) (src2 : GReg) : Encoding.Statement (.orlRR dest src1 src2) := encCmpRR_top _ _ _ _
theorem Encoding.orlBR (bdest : BReg) (src1 : GReg) (src2 : GReg) : Encoding.Statement (.orlBR bdest src1 src2) := encCmpBR_top _ _ _ _
theorem Encoding.orlRI (idest : GReg) (src1 : GReg) (isrc2 : Imm9) : Encoding.Statement (.orlRI idest src1 isrc2) := encCmpRI_top _ _ _ _
theorem Encoding.orlBI (ibdest : BReg) (src1 : GReg) (isrc2 : Imm9) : Encoding.Statement (.orlBI ibdest src1 isrc2) := encCmpBI_top _ _ _ _
theorem Encoding.norlRR (dest : GReg) (src1 : GReg) (src2 : GReg) : Encoding.Statement (.norlRR dest src1 src2) := encCmpRR_top _ _ _ _
theorem Encoding.norlBR (bdest : BReg) (src1 : GReg) (src2 : GReg) : Encoding.Statement (.norlBR bdest src1 src2) := encCmpBR_top _ _ _ _
theorem Encoding.norlRI (idest : GReg) (src1 : GReg) (isrc2 : Imm9) : Encoding.Statement (.norlRI idest src1 isrc2) := encCmpRI_top _ _ _ _
theorem Encoding.norlBI (ibdest : BReg) (src1 : GReg) (isrc2 : Imm9) : Encoding.Statement (.norlBI ibdest src1 isrc2) := encCmpBI_top _ _ _ _
theorem Encoding.mul32R (nldest : GReg) (src1 : GReg) (src2 : GReg) : Encoding.Statement (.mul32R nldest src1 src2) := encCmpRR_top _ _ _ _
theorem Encoding.mul32I (nlidest : GReg) (src1 : GReg) (isrc2 : Imm9) : Encoding.Statement (.mul32I nlidest src1 isrc2) := encCmpRI_top _ _ _ _
theorem Encoding.mul64hR (nldest : GReg) (src1 : GReg) (src2 : GReg) : Encoding.Statement (.mul64hR nldest src1 src2) := encCmpRR_top _ _ _ _
theorem Encoding.mul64hI (nlidest : GReg) (src1 : GReg) (isrc2 : Imm9) : Encoding.Statement (.mul64hI nlidest src1 isrc2) := encCmpRI_top _ _ _ _
theorem Encoding.mul64huR (nldest : GReg) (src1 : GReg) (src2 : GReg) : Encoding.Statement (.mul64huR nldest src1 src2) := encCmpRR_top _ _ _ _
theorem Encoding.mul64huI (nlidest : GReg) (src1 : GReg) (isrc2 : Imm9) : Encoding.Statement (.mul64huI nlidest src1 isrc2) := encCmpRI_top _ _ _ _
theorem Encoding.mulfracR (nldest : GReg) (src1 : GReg) (src2 : GReg) : Encoding.Statement (.mulfracR nldest src1 src2) := encCmpRR_top _ _ _ _
theorem Encoding.mulfracI (nlidest : GReg) (src1 : GReg) (isrc2 : Imm9) : Encoding.Statement (.mulfracI nlidest src1 isrc2) := encCmpRI_top _ _ _ _
theorem Encoding.slctR (dest : GReg) (scond : BReg) (src1 : GReg) (src2 : GReg) : Encoding.Statement (.slctR dest scond src1 src2) := encSelR_top _ _ _ _ _
theorem Encoding.slctI (idest : GReg) (scond : BReg) (src1 : GReg) (isrc2 : Imm9) : Encoding.Statement (.slctI idest scond src1 isrc2) := encSelI_top _ _ _ _ _
theorem Encoding.slctfR (dest : GReg) (scond : BReg) (src1 : GReg) (src2 : GReg) : Encoding.Statement (.slctfR dest scond src1 src2) := encSelR_top _ _ _ _ _
theorem Encoding.slctfI (idest : GReg) (scond : BReg) (src1 : GReg) (isrc2 : Imm9) : Encoding.Statement (.slctfI idest scond src1 isrc2) := encSelI_top _ _ _ _ _
theorem Encoding.addcg (dest : GReg) (bdest : BReg) (scond : BReg) (src1 : GReg) (src2 : GReg) : Encoding.Statement (.addcg dest bdest scond src1 src2) := encCgen_top _ _ _ _ _ _
theorem Encoding.divs (dest : GReg) (bdest : BReg) (scond : BReg) (src1 : GReg) (src2 : GReg) : Encoding.Statement (.divs dest bdest scond src1 src2) := encCgen_top _ _ _ _ _ _
theorem Encoding.imml (imm : Imm23) : Encoding.Statement (.imml imm) := encImm_top _ _
theorem Encoding.immr (imm : Imm23) : Encoding.Statement (.immr imm) := encImm_top _ _
theorem Encoding.prgins : Encoding.Statement .prgins := encSys_top _ _ _
theorem Encoding.sbrk (sbrknum : Imm21) : Encoding.Statement (.sbrk sbrknum) := encSys_top _ _ _
theorem Encoding.syscall (sbrknum : Imm21) : Encoding.Statement (.syscall sbrknum) := encSys_top _ _ _
theorem Encoding.breakOp : Encoding.Statement .breakOp := encSys_top _ _ _
theorem Encoding.ldw (idest : GReg) (src1 : GReg) (isrc2 : Imm9) : Encoding.Statement (.ldw idest src1 isrc2) := encMem_top _ _ _ _
theorem Encoding.ldwD (idest : GReg) (src1 : GReg) (isrc2 : Imm9) : Encoding.Statement (.ldwD idest src1 isrc2) := encMem_top _ _ _ _
theorem Encoding.ldh (nlidest : GReg) (src1 : GReg) (isrc2 : Imm9) : Encoding.Statement (.ldh nlidest src1 isrc2) := encMem_top _ _ _ _
theorem Encoding.ldhD (nlidest : GReg) (src1 : GReg) (isrc2 : Imm9) : Encoding.Statement (.ldhD nlidest src1 isrc2) := encMem_top _ _ _ _
theorem Encoding.ldhu (nlidest : GReg) (src1 : GReg) (isrc2 : Imm9) : Encoding.Statement (.ldhu nlidest src1 isrc2) := encMem_top _ _ _ _
theorem Encoding.ldhuD (nlidest : GReg) (src1 : GReg) (isrc2 : Imm9) : Encoding.Statement (.ldhuD nlidest src1 isrc2) := encMem_top _ _ _ _
theorem Encoding.ldb (nlidest : GReg) (src1 : GReg) (isrc2 : Imm9) : Encoding.Statement (.ldb nlidest src1 isrc2) := encMem_top _ _ _ _
theorem Encoding.ldbD (nlidest : GReg) (src1 : GReg) (isrc2 : Imm9) : Encoding.Statement (.ldbD nlidest src1 isrc2) := encMem_top _ _ _ _
theorem Encoding.ldbu (nlidest : GReg) (src1 : GReg) (isrc2 : Imm9) : Encoding.Statement (.ldbu nlidest src1 isrc2) := encMem_top _ _ _ _
theorem Encoding.ldbuD (nlidest : GReg) (src1 : GReg) (isrc2 : Imm9) : Encoding.Statement (.ldbuD nlidest src1 isrc2) := encMem_top _ _ _ _
theorem Encoding.stw (src2 : GReg) (src1 : GReg) (isrc2 : Imm9) : Encoding.Statement (.stw src2 src1 isrc2) := encMem_top _ _ _ _
theorem Encoding.sth (src2 : GReg) (src1 : GReg) (isrc2 : Imm9) : Encoding.Statement (.sth src2 src1 isrc2) := encMem_top _ _ _ _
theorem Encoding.stb (src2 : GReg) (src1 : GReg) (isrc2 : Imm9) : Encoding.Statement (.stb src2 src1 isrc2) := encMem_top _ _ _ _
theorem Encoding.pft (src1 : GReg) (isrc2 : Imm9) : Encoding.Statement (.pft src1 isrc2) := encMem_top _ _ _ _
theorem Encoding.prgadd (src1 : GReg) (isrc2 : Imm9) : Encoding.Statement (.prgadd src1 isrc2) := encMem_top _ _ _ _
theorem Encoding.prgset (src1 : GReg) (isrc2 : Imm9) : Encoding.Statement (.prgset src1 isrc2) := encMem_top _ _ _ _
theorem Encoding.sync : Encoding.Statement .sync := encMem_top _ _ _ _
theorem Encoding.prginspg (src1 : GReg) (isrc2 : Imm9) : Encoding.Statement (.prginspg src1 isrc2) := encMem_top _ _ _ _
theorem Encoding.pswset (src2 : GReg) : Encoding.Statement (.pswset src2) := encMem_top _ _ _ _
theorem Encoding.pswclr (src2 : GReg) : Encoding.Statement (.pswclr src2) := encMem_top _ _ _ _
theorem Encoding.callImm (btarg : Imm23) : Encoding.Statement (.callImm btarg) := encCall_top _ _
theorem Encoding.callLink : Encoding.Statement .callLink := encCall_top _ _
theorem Encoding.gotoImm (btarg : Imm23) : Encoding.Statement (.gotoImm btarg) := encCall_top _ _
theorem Encoding.gotoLink : Encoding.Statement .gotoLink := encCall_top _ _
theorem Encoding.rfi : Encoding.Statement .rfi := encCall_top _ _
theorem Encoding.br (bcond : BReg) (btarg : Imm23) : Encoding.Statement (.br bcond btarg) := encBranch_top _ _ _
theorem Encoding.brf (bcond : BReg) (btarg : Imm23) : Encoding.Statement (.brf bcond btarg) := encBranch_top _ _ _

end Sys2Proof.Laws
end

