-- ==== Sys2Proof/Tests/Slice0.lean ====
section
/-! SUPPORT. Tests: what WellFormed refuses, the decoding of words written out from 30_encoding.md, single steps of the
vectors of 95_test_vectors.md, and for every obligation with hypotheses a state and operands that meet them. -/

namespace Sys2Proof.Tests

open Sys2Proof.Machine Sys2Proof.Rules

/-! ## WellFormed (30_encoding.md R319) -/

/-- The instructions whose destination must not be R63, with the destination `d`. -/
def linkChecked (d : GReg) : List Instr := [
  .mullhusR d 1#6 2#6, .mulhhsR d 1#6 2#6, .mullR d 1#6 2#6, .mulluR d 1#6 2#6, .mulhR d 1#6 2#6, .mulhuR d 1#6 2#6,
  .mulllR d 1#6 2#6, .mullluR d 1#6 2#6, .mullhR d 1#6 2#6, .mullhuR d 1#6 2#6, .mulhhR d 1#6 2#6, .mulhhuR d 1#6 2#6,
  .mulhsR d 1#6 2#6, .mul32R d 1#6 2#6, .mul64hR d 1#6 2#6, .mul64huR d 1#6 2#6, .mulfracR d 1#6 2#6,
  .mullhusI d 1#6 2#9, .mulhhsI d 1#6 2#9, .mullI d 1#6 2#9, .mulluI d 1#6 2#9, .mulhI d 1#6 2#9, .mulhuI d 1#6 2#9,
  .mulllI d 1#6 2#9, .mullluI d 1#6 2#9, .mullhI d 1#6 2#9, .mullhuI d 1#6 2#9, .mulhhI d 1#6 2#9, .mulhhuI d 1#6 2#9,
  .mulhsI d 1#6 2#9, .mul32I d 1#6 2#9, .mul64hI d 1#6 2#9, .mul64huI d 1#6 2#9, .mulfracI d 1#6 2#9,
  .ldh d 1#6 2#9, .ldhD d 1#6 2#9, .ldhu d 1#6 2#9, .ldhuD d 1#6 2#9, .ldb d 1#6 2#9, .ldbD d 1#6 2#9,
  .ldbu d 1#6 2#9, .ldbuD d 1#6 2#9]

theorem test_wellFormed_refuses_link_destination : ((linkChecked 63#6).all fun i => !i.wellFormed) = true := by decide

theorem test_wellFormed_takes_other_destinations : ((linkChecked 62#6).all fun i => i.wellFormed) = true := by decide

theorem test_wellFormed_takes_link_for_word_loads : Instr.wellFormed (.ldw 63#6 1#6 0#9) = true := by decide

/-! ## Decoding: words written out from the tables of 30_encoding.md R296 to R306, one for each row -/

/-- Every word decodes to the instruction beside it. -/
def decodesAll (l : List (Nat × Instr)) : Bool :=
  l.all fun p => decodeTableWord 32 p.1 == some p.2

theorem test_decode_Int3R_1 : decodesAll [
  (0x0002DCDA, .addR 45#6 26#6 51#6),
  (0x0022DCDA, .subR 45#6 26#6 51#6),
  (0x0042DCDA, .shlR 45#6 26#6 51#6),
  (0x0062DCDA, .shrR 45#6 26#6 51#6),
  (0x0082DCDA, .shruR 45#6 26#6 51#6),
  (0x00A2DCDA, .sh1addR 45#6 26#6 51#6),
  (0x00C2DCDA, .sh2addR 45#6 26#6 51#6),
  (0x00E2DCDA, .sh3addR 45#6 26#6 51#6),
  (0x0102DCDA, .sh4addR 45#6 26#6 51#6),
  (0x0122DCDA, .andR 45#6 26#6 51#6),
  (0x0142DCDA, .andcR 45#6 26#6 51#6),
  (0x0162DCDA, .orR 45#6 26#6 51#6),
  (0x0182DCDA, .orcR 45#6 26#6 51#6),
  (0x01A2DCDA, .xorR 45#6 26#6 51#6),
  (0x01E2DCDA, .mullhusR 45#6 26#6 51#6),
  (0x0202DCDA, .maxR 45#6 26#6 51#6)] = true := by decide

theorem test_decode_Int3R_2 : decodesAll [
  (0x0222DCDA, .maxuR 45#6 26#6 51#6),
  (0x0242DCDA, .minR 45#6 26#6 51#6),
  (0x0262DCDA, .minuR 45#6 26#6 51#6),
  (0x0282DCDA, .mulhhsR 45#6 26#6 51#6),
  (0x02A2DCDA, .mullR 45#6 26#6 51#6),
  (0x02C2DCDA, .mulluR 45#6 26#6 51#6),
  (0x02E2DCDA, .mulhR 45#6 26#6 51#6),
  (0x0302DCDA, .mulhuR 45#6 26#6 51#6),
  (0x0322DCDA, .mulllR 45#6 26#6 51#6),
  (0x0342DCDA, .mullluR 45#6 26#6 51#6),
  (0x0362DCDA, .mullhR 45#6 26#6 51#6),
  (0x0382DCDA, .mullhuR 45#6 26#6 51#6),
  (0x03A2DCDA, .mulhhR 45#6 26#6 51#6),
  (0x03C2DCDA, .mulhhuR 45#6 26#6 51#6),
  (0x03E2DCDA, .mulhsR 45#6 26#6 51#6)] = true := by decide

theorem test_decode_Int3I_1 : decodesAll [
  (0x0816795A, .addI 37#6 26#6 359#9),
  (0x0836795A, .subI 37#6 26#6 359#9),
  (0x0856795A, .shlI 37#6 26#6 359#9),
  (0x0876795A, .shrI 37#6 26#6 359#9),
  (0x0896795A, .shruI 37#6 26#6 359#9),
  (0x08B6795A, .sh1addI 37#6 26#6 359#9),
  (0x08D6795A, .sh2addI 37#6 26#6 359#9),
  (0x08F6795A, .sh3addI 37#6 26#6 359#9),
  (0x0916795A, .sh4addI 37#6 26#6 359#9),
  (0x0936795A, .andI 37#6 26#6 359#9),
  (0x0956795A, .andcI 37#6 26#6 359#9),
  (0x0976795A, .orI 37#6 26#6 359#9),
  (0x0996795A, .orcI 37#6 26#6 359#9),
  (0x09B6795A, .xorI 37#6 26#6 359#9),
  (0x09F6795A, .mullhusI 37#6 26#6 359#9),
  (0x0A16795A, .maxI 37#6 26#6 359#9)] = true := by decide

theorem test_decode_Int3I_2 : decodesAll [
  (0x0A36795A, .maxuI 37#6 26#6 359#9),
  (0x0A56795A, .minI 37#6 26#6 359#9),
  (0x0A76795A, .minuI 37#6 26#6 359#9),
  (0x0A96795A, .mulhhsI 37#6 26#6 359#9),
  (0x0AB6795A, .mullI 37#6 26#6 359#9),
  (0x0AD6795A, .mulluI 37#6 26#6 359#9),
  (0x0AF6795A, .mulhI 37#6 26#6 359#9),
  (0x0B16795A, .mulhuI 37#6 26#6 359#9),
  (0x0B36795A, .mulllI 37#6 26#6 359#9),
  (0x0B56795A, .mullluI 37#6 26#6 359#9),
  (0x0B76795A, .mullhI 37#6 26#6 359#9),
  (0x0B96795A, .mullhuI 37#6 26#6 359#9),
  (0x0BB6795A, .mulhhI 37#6 26#6 359#9),
  (0x0BD6795A, .mulhhuI 37#6 26#6 359#9),
  (0x0BF6795A, .mulhsI 37#6 26#6 359#9)] = true := by decide

theorem test_decode_Monadic : decodesAll [
  (0x09C0095A, .sxtb 37#6 26#6),
  (0x09C0195A, .sxth 37#6 26#6),
  (0x09C0295A, .bswap 37#6 26#6),
  (0x09C0395A, .zxth 37#6 26#6),
  (0x09C0495A, .clz 37#6 26#6)] = true := by decide

theorem test_decode_Cmp3R_Reg : decodesAll [
  (0x0402DCDA, .cmpeqRR 45#6 26#6 51#6),
  (0x0422DCDA, .cmpneRR 45#6 26#6 51#6),
  (0x0442DCDA, .cmpgeRR 45#6 26#6 51#6),
  (0x0462DCDA, .cmpgeuRR 45#6 26#6 51#6),
  (0x0482DCDA, .cmpgtRR 45#6 26#6 51#6),
  (0x04A2DCDA, .cmpgtuRR 45#6 26#6 51#6),
  (0x04C2DCDA, .cmpleRR 45#6 26#6 51#6),
  (0x04E2DCDA, .cmpleuRR 45#6 26#6 51#6),
  (0x0502DCDA, .cmpltRR 45#6 26#6 51#6),
  (0x0522DCDA, .cmpltuRR 45#6 26#6 51#6),
  (0x0542DCDA, .andlRR 45#6 26#6 51#6),
  (0x0562DCDA, .nandlRR 45#6 26#6 51#6),
  (0x0582DCDA, .orlRR 45#6 26#6 51#6),
  (0x05A2DCDA, .norlRR 45#6 26#6 51#6)] = true := by decide

theorem test_decode_Cmp3R_Br : decodesAll [
  (0x06140CDA, .cmpeqBR 5#3 26#6 51#6),
  (0x06340CDA, .cmpneBR 5#3 26#6 51#6),
  (0x06540CDA, .cmpgeBR 5#3 26#6 51#6),
  (0x06740CDA, .cmpgeuBR 5#3 26#6 51#6),
  (0x06940CDA, .cmpgtBR 5#3 26#6 51#6),
  (0x06B40CDA, .cmpgtuBR 5#3 26#6 51#6),
  (0x06D40CDA, .cmpleBR 5#3 26#6 51#6),
  (0x06F40CDA, .cmpleuBR 5#3 26#6 51#6),
  (0x07140CDA, .cmpltBR 5#3 26#6 51#6),
  (0x07340CDA, .cmpltuBR 5#3 26#6 51#6),
  (0x07540CDA, .andlBR 5#3 26#6 51#6),
  (0x07740CDA, .nandlBR 5#3 26#6 51#6),
  (0x07940CDA, .orlBR 5#3 26#6 51#6),
  (0x07B40CDA, .norlBR 5#3 26#6 51#6)] = true := by decide

theorem test_decode_Cmp3I_Reg : decodesAll [
  (0x0C16795A, .cmpeqRI 37#6 26#6 359#9),
  (0x0C36795A, .cmpneRI 37#6 26#6 359#9),
  (0x0C56795A, .cmpgeRI 37#6 26#6 359#9),
  (0x0C76795A, .cmpgeuRI 37#6 26#6 359#9),
  (0x0C96795A, .cmpgtRI 37#6 26#6 359#9),
  (0x0CB6795A, .cmpgtuRI 37#6 26#6 359#9),
  (0x0CD6795A, .cmpleRI 37#6 26#6 359#9),
  (0x0CF6795A, .cmpleuRI 37#6 26#6 359#9),
  (0x0D16795A, .cmpltRI 37#6 26#6 359#9),
  (0x0D36795A, .cmpltuRI 37#6 26#6 359#9),
  (0x0D56795A, .andlRI 37#6 26#6 359#9),
  (0x0D76795A, .nandlRI 37#6 26#6 359#9),
  (0x0D96795A, .orlRI 37#6 26#6 359#9),
  (0x0DB6795A, .norlRI 37#6 26#6 359#9)] = true := by decide

theorem test_decode_Cmp3I_Br : decodesAll [
  (0x0E1670DA, .cmpeqBI 3#3 26#6 359#9),
  (0x0E3670DA, .cmpneBI 3#3 26#6 359#9),
  (0x0E5670DA, .cmpgeBI 3#3 26#6 359#9),
  (0x0E7670DA, .cmpgeuBI 3#3 26#6 359#9),
  (0x0E9670DA, .cmpgtBI 3#3 26#6 359#9),
  (0x0EB670DA, .cmpgtuBI 3#3 26#6 359#9),
  (0x0ED670DA, .cmpleBI 3#3 26#6 359#9),
  (0x0EF670DA, .cmpleuBI 3#3 26#6 359#9),
  (0x0F1670DA, .cmpltBI 3#3 26#6 359#9),
  (0x0F3670DA, .cmpltuBI 3#3 26#6 359#9),
  (0x0F5670DA, .andlBI 3#3 26#6 359#9),
  (0x0F7670DA, .nandlBI 3#3 26#6 359#9),
  (0x0F9670DA, .orlBI 3#3 26#6 359#9),
  (0x0FB670DA, .norlBI 3#3 26#6 359#9)] = true := by decide

theorem test_decode_Mul64R : decodesAll [
  (0x05C2DCDA, .mul32R 45#6 26#6 51#6),
  (0x05E2DCDA, .mul64hR 45#6 26#6 51#6),
  (0x07C2DCDA, .mul64huR 45#6 26#6 51#6),
  (0x07E2DCDA, .mulfracR 45#6 26#6 51#6)] = true := by decide

theorem test_decode_Mul64I : decodesAll [
  (0x0DD6795A, .mul32I 37#6 26#6 359#9),
  (0x0DF6795A, .mul64hI 37#6 26#6 359#9),
  (0x0FD6795A, .mul64huI 37#6 26#6 359#9),
  (0x0FF6795A, .mulfracI 37#6 26#6 359#9)] = true := by decide

theorem test_decode_SelectR : decodesAll [
  (0x10C2DCDA, .slctR 45#6 6#3 26#6 51#6),
  (0x11C2DCDA, .slctfR 45#6 6#3 26#6 51#6)] = true := by decide

theorem test_decode_SelectI : decodesAll [
  (0x18D6795A, .slctI 37#6 6#3 26#6 359#9),
  (0x19D6795A, .slctfI 37#6 6#3 26#6 359#9)] = true := by decide

theorem test_decode_cgen : decodesAll [
  (0x12D6DCDA, .addcg 45#6 5#3 6#3 26#6 51#6),
  (0x14D6DCDA, .divs 45#6 5#3 6#3 26#6 51#6)] = true := by decide

theorem test_decode_Imm : decodesAll [
  (0x155A5A5A, .imml 5921370#23),
  (0x15DA5A5A, .immr 5921370#23)] = true := by decide

theorem test_decode_SysOp : decodesAll [
  (0x1F800000, .prgins),
  (0x1FE00000, .breakOp)] = true := by decide

theorem test_decode_SBreak : decodesAll [
  (0x9FB55555, .sbrk 1398101#21),
  (0x1FD55555, .syscall 1398101#21)] = true := by decide

theorem test_decode_Load : decodesAll [
  (0x2016795A, .ldw 37#6 26#6 359#9),
  (0x2096795A, .ldwD 37#6 26#6 359#9),
  (0x2116795A, .ldh 37#6 26#6 359#9),
  (0x2196795A, .ldhD 37#6 26#6 359#9),
  (0x2216795A, .ldhu 37#6 26#6 359#9),
  (0x2296795A, .ldhuD 37#6 26#6 359#9),
  (0x2316795A, .ldb 37#6 26#6 359#9),
  (0x2396795A, .ldbD 37#6 26#6 359#9),
  (0x2416795A, .ldbu 37#6 26#6 359#9),
  (0x2496795A, .ldbuD 37#6 26#6 359#9)] = true := by decide

theorem test_decode_Store : decodesAll [
  (0x25167CDA, .stw 51#6 26#6 359#9),
  (0x25967CDA, .sth 51#6 26#6 359#9),
  (0x26167CDA, .stb 51#6 26#6 359#9),
  (0x2696701A, .pft 26#6 359#9),
  (0x2716701A, .prgadd 26#6 359#9),
  (0x2796701A, .prgset 26#6 359#9),
  (0x28000000, .sync),
  (0x2896701A, .prginspg 26#6 359#9)] = true := by decide

theorem test_decode_Psw : decodesAll [
  (0x29000CC0, .pswset 51#6),
  (0x29800CC0, .pswclr 51#6)] = true := by decide

theorem test_decode_Call : decodesAll [
  (0x302A5A5A, .callImm 2775642#23),
  (0x30800000, .callLink),
  (0x312A5A5A, .gotoImm 2775642#23),
  (0x31800000, .gotoLink),
  (0x32000000, .rfi)] = true := by decide

theorem test_decode_Branch : decodesAll [
  (0x3B2A5A5A, .br 6#3 2775642#23),
  (0x3F2A5A5A, .brf 6#3 2775642#23)] = true := by decide

theorem test_decode_refuses_reserved_words : ([0x40000000, 0x00040000, 0x01C00000, 0x2C000000, 0x1FA00001].all
    fun w => decodeTableWord 32 w == none) = true := by decide

/-! ## Single steps: vectors of 95_test_vectors.md; HANDLER_PC is 0x8000 in each -/

/-- A vector: what is placed before the step and what is expected after it. -/
structure Vec where
  big : Bool := false
  origin : Word
  words : List Word
  psw : Word := 0#32
  regs : List (GReg × Word) := []
  bits : List (BReg × Nat) := []
  bytes : List (Nat × Byte) := []
  regsOut : List (GReg × Word) := []
  bitsOut : List (BReg × Nat) := []
  bytesOut : List (Nat × Byte) := []
  pswOut : Word := 0#32
  cause : BitVec 5 := 0#5
  address : Word := 0#32
  pc : Word

/-- A state with this program, these registers and these bytes. -/
def Vec.start (v : Vec) : State :=
  let s := { State.reset with
    cfg := { Cfg.initial with bigEndian := v.big }
    pc := v.origin, nextPc := v.origin, psw := v.psw, handlerPc := 0x8000#32
    mem := v.bytes.foldl (fun m x => memSet m x.1 x.2) (storeWords v.big [] v.origin v.words) }
  let s := v.regs.foldl (fun s x => s.writeR x.1 x.2) s
  v.bits.foldl (fun s x => s.writeB x.1 (x.2 != 0)) s

/-- The step gives what the vector expects. -/
def Vec.holds (v : Vec) : Bool :=
  match step v.start with
  | .next t =>
    v.regsOut.all (fun x => t.r x.1 == x.2) && v.bitsOut.all (fun x => t.b x.1 == (x.2 != 0)) &&
    v.bytesOut.all (fun x => memByte t.mem x.1 == x.2) && t.psw == v.pswOut && t.excauseno == v.cause &&
    t.exaddress == v.address && t.pc == v.pc
  | _ => false

/-- Every vector holds. -/
def vectorsHold (l : List Vec) : Bool := l.all Vec.holds

theorem test_step_worked_examples_1 : vectorsHold [
  -- nop ;;
  { origin := 0x1000, words := [0x80000000], pc := 0x1004 },
  -- return ;;
  { origin := 0x1000, words := [0xB1800000], regs := [(63, 0x4002)], pc := 0x4000 },
  -- idle ;;
  { origin := 0x1000, words := [0xB1000000], pc := 0x1000 },
  -- syncins ;;
  { origin := 0x1000, words := [0xA9000000], pc := 0x1004 },
  -- mov $r1 = $r2 ;;
  { origin := 0x1000, words := [0x80001080], regs := [(2, 0xcafe0001)], regsOut := [(1, 0xcafe0001)], pc := 0x1004 },
  -- mtb $b2 = $r3 ;;
  { origin := 0x1000, words := [0x87880003], regs := [(3, 2)], bitsOut := [(2, 1)], pc := 0x1004 },
  -- mfb $r5 = $b3 ;;
  { origin := 0x1000, words := [0x99601140], regs := [(5, 0xffffffff)], bits := [(3, 1)], regsOut := [(5, 1)], pc :=
    0x1004 },
  -- stw 0[$r2] = $r3 ;;
  { big := true, origin := 0x1000, words := [0xA50000C2], regs := [(2, 0x2000), (3, 0xaabbccdd)], bytesOut :=
    [(8192, 0xaa), (8193, 0xbb), (8194, 0xcc), (8195, 0xdd)], pc := 0x1004 },
  -- ldbu $r1 = 0[$r2] ;;
  { origin := 0x1000, words := [0xA4000042], regs := [(2, 0x2000)], bytes := [(8192, 0xdd), (8193, 0xcc), (8194,
    0xbb), (8195, 0xaa)], regsOut := [(1, 0xdd)], pc := 0x1004 },
  -- ldw $r1 = 0[$r2] ;;
  { origin := 0x1000, words := [0xA0000042], regs := [(2, 0x2000)], bytes := [(8192, 0xdd), (8193, 0xcc), (8194,
    0xbb), (8195, 0xaa)], regsOut := [(1, 0xaabbccdd)], pc := 0x1004 },
  -- mullhu $r2 = $r1, $r1 ;;
  { origin := 0x1004, words := [0x83802041], regs := [(1, 0x40ffff)], regsOut := [(2, 0x3fffc0)], pc := 0x1008 },
  -- shru $r2 = $r2, 16 ;;
  { origin := 0x1000, words := [0x88810082], regs := [(2, 0x3fffc0)], regsOut := [(2, 0x3f)], pc := 0x1004 }] = true
    := by decide

theorem test_step_worked_examples_2 : vectorsHold [
  -- clz $r1 = $r2 ;;
  { origin := 0x1000, words := [0x89C04042], regs := [(2, 0x80000000), (1, 0xffffffff)], regsOut := [(1, 0)], pc :=
    0x1004 }] = true := by decide

theorem test_step_integer_1 : vectorsHold [
  -- sub $r1 = $r2, $r3 ;;
  { origin := 0x1000, words := [0x80201083], regs := [(2, 5), (3, 7)], regsOut := [(1, 0xfffffffe)], pc := 0x1004 },
  -- shl $r1 = $r2, $r3 ;;
  { origin := 0x1000, words := [0x804010C2], regs := [(2, 0x80000001), (3, 4)], regsOut := [(1, 0x10)], pc := 0x1004
    },
  -- shr $r1 = $r2, $r3 ;;
  { origin := 0x1000, words := [0x806010C2], regs := [(2, 0x80000000), (3, 4)], regsOut := [(1, 0xf8000000)], pc :=
    0x1004 },
  -- sh1add $r1 = $r2, $r3 ;;
  { origin := 0x1000, words := [0x80A010C2], regs := [(2, 0xc0000001), (3, 5)], regsOut := [(1, 0x80000007)], pc :=
    0x1004 },
  -- sh2add $r1 = $r2, $r3 ;;
  { origin := 0x1000, words := [0x80C010C2], regs := [(2, 3), (3, 0x1000)], regsOut := [(1, 0x100c)], pc := 0x1004 },
  -- sh3add $r1 = $r2, 8 ;;
  { origin := 0x1000, words := [0x88E08042], regs := [(2, 0xffffffff)], regsOut := [(1, 0)], pc := 0x1004 },
  -- sh4add $r1 = $r2, $r3 ;;
  { origin := 0x1000, words := [0x810010C2], regs := [(2, 0x10000003), (3, 1)], regsOut := [(1, 0x31)], pc := 0x1004
    },
  -- and $r1 = $r2, $r3 ;;
  { origin := 0x1000, words := [0x812010C2], regs := [(2, 0xff00ff00), (3, 0xff00ff0)], regsOut := [(1, 0xf000f00)],
    pc := 0x1004 },
  -- andc $r1 = $r2, $r3 ;;
  { origin := 0x1000, words := [0x814010C2], regs := [(2, 0xff00ff00), (3, 0xff00ff0)], regsOut := [(1, 0xf000f0)],
    pc := 0x1004 },
  -- or $r1 = $r2, $r3 ;;
  { origin := 0x1000, words := [0x816010C2], regs := [(2, 0xff00ff00), (3, 0xff00ff0)], regsOut := [(1,
    0xfff0fff0)], pc := 0x1004 },
  -- orc $r1 = $r2, $r3 ;;
  { origin := 0x1000, words := [0x818010C2], regs := [(2, 0xff00ff00), (3, 0xff00ff0)], regsOut := [(1, 0xfff0fff)],
    pc := 0x1004 },
  -- xor $r1 = $r2, -1 ;;
  { origin := 0x1000, words := [0x89BFF042], regs := [(2, 0xf0f0f0f)], regsOut := [(1, 0xf0f0f0f0)], pc := 0x1004 }]
    = true := by decide

theorem test_step_integer_2 : vectorsHold [
  -- max $r1 = $r2, $r3 ;;
  { origin := 0x1000, words := [0x820010C2], regs := [(2, 0xffffffff), (3, 1)], regsOut := [(1, 1)], pc := 0x1004 },
  -- maxu $r1 = $r2, $r3 ;;
  { origin := 0x1000, words := [0x822010C2], regs := [(2, 0xffffffff), (3, 1)], regsOut := [(1, 0xffffffff)], pc :=
    0x1004 },
  -- min $r1 = $r2, $r3 ;;
  { origin := 0x1000, words := [0x824010C2], regs := [(2, 0xffffffff), (3, 1)], regsOut := [(1, 0xffffffff)], pc :=
    0x1004 },
  -- minu $r1 = $r2, $r3 ;;
  { origin := 0x1000, words := [0x826010C2], regs := [(2, 0xffffffff), (3, 1)], regsOut := [(1, 1)], pc := 0x1004 },
  -- sxtb $r1 = $r2 ;;
  { origin := 0x1000, words := [0x89C00042], regs := [(2, 0x12345680)], regsOut := [(1, 0xffffff80)], pc := 0x1004 },
  -- sxth $r1 = $r2 ;;
  { origin := 0x1000, words := [0x89C01042], regs := [(2, 0x12348000)], regsOut := [(1, 0xffff8000)], pc := 0x1004 },
  -- zxth $r1 = $r2 ;;
  { origin := 0x1000, words := [0x89C03042], regs := [(2, 0xffff8000)], regsOut := [(1, 0x8000)], pc := 0x1004 },
  -- bswap $r1 = $r2 ;;
  { origin := 0x1000, words := [0x89C02042], regs := [(2, 0x11223344)], regsOut := [(1, 0x44332211)], pc := 0x1004
    }] = true := by decide

theorem test_step_compare_1 : vectorsHold [
  -- cmpeq $r1 = $r2, $r3 ;;
  { origin := 0x1000, words := [0x840010C2], regs := [(2, 7), (3, 7), (1, 0xdeadbeef)], regsOut := [(1, 1)], pc :=
    0x1004 },
  -- cmpeq $b1 = $r2, $r3 ;;
  { origin := 0x1000, words := [0x860400C2], regs := [(2, 7), (3, 8)], bits := [(1, 1)], bitsOut := [(1, 0)], pc :=
    0x1004 },
  -- cmpne $b0 = $r2, 0 ;;
  { origin := 0x1000, words := [0x8E200002], regs := [(2, 1)], bitsOut := [(0, 1)], pc := 0x1004 },
  -- cmpge $r1 = $r2, $r3 ;;
  { origin := 0x1000, words := [0x844010C2], regs := [(2, 0x80000000), (3, 0x7fffffff)], regsOut := [(1, 0)], pc :=
    0x1004 },
  -- cmpgeu $r1 = $r2, $r3 ;;
  { origin := 0x1000, words := [0x846010C2], regs := [(2, 0x80000000), (3, 0x7fffffff)], regsOut := [(1, 1)], pc :=
    0x1004 },
  -- cmpgt $b2 = $r2, -1 ;;
  { origin := 0x1000, words := [0x8E9FF082], regs := [(2, 0)], bitsOut := [(2, 1)], pc := 0x1004 },
  -- cmple $r1 = $r2, $r3 ;;
  { origin := 0x1000, words := [0x84C010C2], regs := [(2, 5), (3, 5)], regsOut := [(1, 1)], pc := 0x1004 },
  -- cmpleu $b3 = $r2, $r3 ;;
  { origin := 0x1000, words := [0x86EC00C2], regs := [(2, 0xffffffff), (3, 0)], bitsOut := [(3, 0)], pc := 0x1004 },
  -- cmplt $r1 = $r2, $r3 ;;
  { origin := 0x1000, words := [0x850010C2], regs := [(2, 0xffffffff), (3, 1)], regsOut := [(1, 1)], pc := 0x1004 },
  -- cmpltu $r1 = $r2, $r3 ;;
  { origin := 0x1000, words := [0x852010C2], regs := [(2, 0xffffffff), (3, 1), (1, 9)], regsOut := [(1, 0)], pc :=
    0x1004 },
  -- cmplt $b7 = $r2, 255 ;;
  { origin := 0x1000, words := [0x8F0FF1C2], regs := [(2, 0xfe)], bitsOut := [(7, 1)], pc := 0x1004 },
  -- andl $r1 = $r2, $r3 ;;
  { origin := 0x1000, words := [0x854010C2], regs := [(2, 2), (3, 4)], regsOut := [(1, 1)], pc := 0x1004 }] = true
    := by decide

theorem test_step_compare_2 : vectorsHold [
  -- nandl $r1 = $r2, $r3 ;;
  { origin := 0x1000, words := [0x856010C2], regs := [(2, 2), (3, 0)], regsOut := [(1, 1)], pc := 0x1004 },
  -- orl $r1 = $r2, $r3 ;;
  { origin := 0x1000, words := [0x858010C2], regs := [(2, 0), (3, 0x80000000)], regsOut := [(1, 1)], pc := 0x1004 },
  -- norl $r1 = $r2, $r3 ;;
  { origin := 0x1000, words := [0x85A010C2], regs := [(2, 0), (3, 0)], regsOut := [(1, 1)], pc := 0x1004 }] = true
    := by decide

theorem test_step_select : vectorsHold [
  -- slct $r1 = $b1, $r2, $r3 ;;
  { origin := 0x1000, words := [0x902010C2], regs := [(2, 0xaaaa), (3, 0xbbbb)], bits := [(1, 1)], regsOut := [(1,
    0xaaaa)], pc := 0x1004 },
  -- slctf $r1 = $b1, $r2, $r3 ;;
  { origin := 0x1000, words := [0x912010C2], regs := [(2, 0xaaaa), (3, 0xbbbb)], bits := [(1, 1)], regsOut := [(1,
    0xbbbb)], pc := 0x1004 },
  -- addcg $r1, $b2 = $r2, $r3, $b1 ;;
  { origin := 0x1000, words := [0x922810C2], regs := [(2, 0xffffffff), (3, 0)], bits := [(1, 1)], regsOut := [(1,
    0)], bitsOut := [(2, 1)], pc := 0x1004 },
  -- divs $r1, $b2 = $r2, $r3, $b1 ;;
  { origin := 0x1000, words := [0x942810C2], regs := [(2, 5), (3, 3)], bits := [(1, 1)], regsOut := [(1, 8)],
    bitsOut := [(2, 0)], pc := 0x1004 }] = true := by decide

theorem test_step_multiply_1 : vectorsHold [
  -- mull $r1 = $r2, $r3 ;;
  { origin := 0x1004, words := [0x82A010C2], regs := [(2, 0x8001fffe), (3, 0x7fff8002)], regsOut := [(1, 0x4fffc)],
    pc := 0x1008 },
  -- mullu $r1 = $r2, $r3 ;;
  { origin := 0x1004, words := [0x82C010C2], regs := [(2, 0x8001fffe), (3, 0x7fff8002)], regsOut := [(1, 0x2fffc)],
    pc := 0x1008 },
  -- mulh $r1 = $r2, $r3 ;;
  { origin := 0x1004, words := [0x82E010C2], regs := [(2, 0x8001fffe), (3, 0x7fff8002)], regsOut := [(1,
    0x7ffd0002)], pc := 0x1008 },
  -- mulhu $r1 = $r2, $r3 ;;
  { origin := 0x1004, words := [0x830010C2], regs := [(2, 0x8001fffe), (3, 0x7fff8002)], regsOut := [(1,
    0x7ffd0002)], pc := 0x1008 },
  -- mulhs $r1 = $r2, $r3 ;;
  { origin := 0x1004, words := [0x83E010C2], regs := [(2, 0x8001fffe), (3, 0x7fff8002)], regsOut := [(1, 0x20000)],
    pc := 0x1008 },
  -- mulhhs $r1 = $r2, $r3 ;;
  { origin := 0x1004, words := [0x828010C2], regs := [(2, 0x8001fffe), (3, 0x7fff8002)], regsOut := [(1,
    0xc0017ffd)], pc := 0x1008 },
  -- mullhus $r1 = $r2, $r3 ;;
  { origin := 0x1004, words := [0x81E010C2], regs := [(2, 0x8001fffe), (3, 0x7fff8002)], regsOut := [(1,
    0xffffc000)], pc := 0x1008 },
  -- mulll $r1 = $r2, $r3 ;;
  { origin := 0x1004, words := [0x832010C2], regs := [(2, 0x8001fffe), (3, 0x7fff8002)], regsOut := [(1, 0xfffc)],
    pc := 0x1008 },
  -- mulllu $r1 = $r2, $r3 ;;
  { origin := 0x1004, words := [0x834010C2], regs := [(2, 0x8001fffe), (3, 0x7fff8002)], regsOut := [(1,
    0x8000fffc)], pc := 0x1008 },
  -- mullh $r1 = $r2, $r3 ;;
  { origin := 0x1004, words := [0x836010C2], regs := [(2, 0x8001fffe), (3, 0x7fff8002)], regsOut := [(1,
    0xffff0002)], pc := 0x1008 },
  -- mulhh $r1 = $r2, $r3 ;;
  { origin := 0x1004, words := [0x83A010C2], regs := [(2, 0x8001fffe), (3, 0x7fff8002)], regsOut := [(1,
    0xc000ffff)], pc := 0x1008 },
  -- mulhhu $r1 = $r2, $r3 ;;
  { origin := 0x1004, words := [0x83C010C2], regs := [(2, 0x8001fffe), (3, 0x7fff8002)], regsOut := [(1,
    0x3fffffff)], pc := 0x1008 }] = true := by decide

theorem test_step_multiply_2 : vectorsHold [
  -- mul32 $r1 = $r2, $r3 ;;
  { origin := 0x1004, words := [0x85C010C2], regs := [(2, 0x8001fffe), (3, 0x7fff8002)], regsOut := [(1, 0x4fffc)],
    pc := 0x1008 },
  -- mul64h $r1 = $r2, $r3 ;;
  { origin := 0x1004, words := [0x85E010C2], regs := [(2, 0x8001fffe), (3, 0x7fff8002)], regsOut := [(1,
    0xc0013ffd)], pc := 0x1008 },
  -- mul64hu $r1 = $r2, $r3 ;;
  { origin := 0x1004, words := [0x87C010C2], regs := [(2, 0x8001fffe), (3, 0x7fff8002)], regsOut := [(1,
    0x4000bfff)], pc := 0x1008 },
  -- mulfrac $r1 = $r2, $r3 ;;
  { origin := 0x1004, words := [0x87E010C2], regs := [(2, 0x8001fffe), (3, 0x7fff8002)], regsOut := [(1,
    0x80027ffa)], pc := 0x1008 },
  -- mull $r1 = $r2, $r3 ;;
  { origin := 0x1000, words := [0x82A010C2], regs := [(2, 3), (3, 5)], cause := 6, pc := 0x8000 }] = true := by decide

theorem test_step_memory_1 : vectorsHold [
  -- ldh $r1 = 0[$r2] ;;
  { origin := 0x1000, words := [0xA1000042], regs := [(2, 0x2000)], bytes := [(8192, 0xdd), (8193, 0xcc), (8194,
    0xbb), (8195, 0xaa)], regsOut := [(1, 0xffffccdd)], pc := 0x1004 },
  -- ldhu $r1 = 2[$r2] ;;
  { origin := 0x1000, words := [0xA2002042], regs := [(2, 0x2000)], bytes := [(8192, 0xdd), (8193, 0xcc), (8194,
    0xbb), (8195, 0xaa)], regsOut := [(1, 0xaabb)], pc := 0x1004 },
  -- ldb $r1 = 3[$r2] ;;
  { origin := 0x1000, words := [0xA3003042], regs := [(2, 0x2000)], bytes := [(8192, 0xdd), (8193, 0xcc), (8194,
    0xbb), (8195, 0xaa)], regsOut := [(1, 0xffffffaa)], pc := 0x1004 },
  -- sth 2[$r2] = $r3 ;;
  { origin := 0x1000, words := [0xA58020C2], regs := [(2, 0x2000), (3, 0xabcd1234)], bytesOut := [(8194, 0x34),
    (8195, 0x12)], pc := 0x1004 },
  -- stb 1[$r2] = $r3 ;;
  { origin := 0x1000, words := [0xA60010C2], regs := [(2, 0x2000), (3, 0x1ff)], bytesOut := [(8193, 0xff)], pc :=
    0x1004 },
  -- ldh $r1 = 0[$r2] ;;
  { big := true, origin := 0x1000, words := [0xA1000042], regs := [(2, 0x2000)], bytes := [(8192, 0xdd), (8193,
    0xcc), (8194, 0xbb), (8195, 0xaa)], regsOut := [(1, 0xffffddcc)], pc := 0x1004 },
  -- ldb $r63 = 0[$r2] ;;
  { origin := 0x1000, words := [0xA3000FC2], regs := [(2, 0x2000)], bytes := [(8192, 0xdd), (8193, 0xcc), (8194,
    0xbb), (8195, 0xaa)], cause := 6, pc := 0x8000 },
  -- ldw $r1 = 2[$r2] ;;
  { origin := 0x1000, words := [0xA0002042], regs := [(2, 0x2000)], bytes := [(8192, 0xdd), (8193, 0xcc), (8194,
    0xbb), (8195, 0xaa)], cause := 9, address := 0x2002, pc := 0x8000 },
  -- stw 1[$r2] = $r3 ;;
  { origin := 0x1000, words := [0xA50010C2], regs := [(2, 0x2000), (3, 5)], cause := 9, address := 0x2001, pc :=
    0x8000 },
  -- ldw.d $r1 = 2[$r2] ;;
  { origin := 0x1000, words := [0xA0802042], regs := [(2, 0x2000), (1, 0x55)], bytes := [(8192, 0xdd), (8193, 0xcc),
    (8194, 0xbb), (8195, 0xaa)], regsOut := [(1, 0)], pc := 0x1004 },
  -- ldw.d $r1 = 2[$r2] ;;
  { origin := 0x1000, words := [0xA0802042], psw := 0x10, regs := [(2, 0x2000), (1, 0x55)], bytes := [(8192, 0xdd),
    (8193, 0xcc), (8194, 0xbb), (8195, 0xaa)], pswOut := 0x10, cause := 9, address := 0x2002, pc := 0x8000 },
  -- ldh.d $r1 = 2[$r2] ;;
  { origin := 0x1000, words := [0xA1802042], regs := [(2, 0x2000)], bytes := [(8192, 0xdd), (8193, 0xcc), (8194,
    0xbb), (8195, 0xaa)], regsOut := [(1, 0xffffaabb)], pc := 0x1004 }] = true := by decide

theorem test_step_memory_2 : vectorsHold [
  -- ldbu.d $r1 = 3[$r2] ;;
  { origin := 0x1000, words := [0xA4803042], regs := [(2, 0x2000)], bytes := [(8192, 0xdd), (8193, 0xcc), (8194,
    0xbb), (8195, 0xaa)], regsOut := [(1, 0xaa)], pc := 0x1004 },
  -- ldw $r1 = 0[$r2] ;;
  { origin := 0x1000, words := [0xA0000042], psw := 0x1, regs := [(2, 0xffffffc8)], pswOut := 0x0, cause := 11,
    address := 0xFFFFFFC8, pc := 0x8000 },
  -- ldw $r1 = 0[$r2] ;;
  { origin := 0x1000, words := [0xA0000042], regs := [(2, 0xffff0000)], cause := 10, address := 0xFFFF0000, pc :=
    0x8000 },
  -- ldh $r1 = 0[$r2] ;;
  { origin := 0x1000, words := [0xA1000042], regs := [(2, 0xfffffff8)], cause := 11, address := 0xFFFFFFF8, pc :=
    0x8000 },
  -- stb 0[$r2] = $r3 ;;
  { origin := 0x1000, words := [0xA60000C2], regs := [(2, 0xffff0000), (3, 1)], cause := 11, address := 0xFFFF0000,
    pc := 0x8000 },
  -- pft 0[$r2] ;;
  { origin := 0x1000, words := [0xA6800002], regs := [(2, 0x2001)], pc := 0x1004 },
  -- prgadd 0[$r2] ;;
  { origin := 0x1000, words := [0xA7000002], regs := [(2, 0x2000)], pc := 0x1004 },
  -- prgset 0[$r2] ;;
  { origin := 0x1000, words := [0xA7800002], regs := [(2, 0x2000)], pc := 0x1004 },
  -- sync ;;
  { origin := 0x1000, words := [0xA8000000], pc := 0x1004 },
  -- prgins ;;
  { origin := 0x1000, words := [0x9F800000], pc := 0x1004 },
  -- prgins ;;
  { origin := 0x1000, words := [0x9F800000], psw := 0x1, pswOut := 0x0, cause := 6, pc := 0x8000 },
  -- prginspg 0[$r2] ;;
  { origin := 0x1000, words := [0xA8800002], regs := [(2, 0x2000)], pc := 0x1004 }] = true := by decide

theorem test_step_memory_3 : vectorsHold [
  -- ldw $r1 = 0[$r2] ; stw 4[$r2] = $r3 ;;
  { origin := 0x1000, words := [0x20000042, 0xA50040C2], regs := [(2, 0x2000), (3, 1)], bytes := [(8192, 0xdd),
    (8193, 0xcc), (8194, 0xbb), (8195, 0xaa)], cause := 6, pc := 0x8000 },
  -- ldw $r1 = 0[$r2] ; add $r2 = $r2, 4 ; cmpne $b0 = $r2, $r3 ;;
  { origin := 0x1000, words := [0x20000042, 0x08004082, 0x862000C2], regs := [(2, 0x2000), (3, 0x2004)], bytes :=
    [(8192, 0xdd), (8193, 0xcc), (8194, 0xbb), (8195, 0xaa)], regsOut := [(1, 0xaabbccdd), (2, 0x2004)], bitsOut :=
    [(0, 1)], pc := 0x100C }] = true := by decide

theorem test_step_control : vectorsHold [
  -- br $b1, 0x1040 ;;
  { origin := 0x1000, words := [0xB8800010], bits := [(1, 1)], pc := 0x1040 },
  -- brf $b1, 0x0FF0 ;;
  { origin := 0x1000, words := [0xBCFFFFFC], bits := [(1, 0)], pc := 0xFF0 },
  -- br $b1, 0x1040 ; cmpeq $b1 = $r0, $r0 ;;
  { origin := 0x1000, words := [0x38800010, 0x86040000], bits := [(1, 0)], bitsOut := [(1, 1)], pc := 0x1008 },
  -- goto 0x2000 ;;
  { origin := 0x1000, words := [0xB1000400], pc := 0x2000 },
  -- call $r63 = 0x2000 ;;
  { origin := 0x1000, words := [0xB0000400], regsOut := [(63, 0x1004)], pc := 0x2000 },
  -- add $r1 = $r2, 1 ; goto 0x2000 ;;
  { origin := 0x1000, words := [0x08001042, 0xB1000400], regs := [(2, 5)], cause := 6, pc := 0x8000 }] = true := by
    decide

theorem test_step_system : vectorsHold [
  -- pswset $r1 ;;
  { origin := 0x1000, words := [0xA9000040], regs := [(1, 0xffffffff)], pswOut := 0x31f, pc := 0x1004 },
  -- pswset $r1 ;;
  { origin := 0x1000, words := [0xA9000040], psw := 0x1, regs := [(1, 2)], pswOut := 0x0, cause := 6, pc := 0x8000 },
  -- syscall 0x1234 ;;
  { origin := 0x1000, words := [0x9FC01234], psw := 0x3, pswOut := 0x0, cause := 7, pc := 0x8000 },
  -- sbrk 0x1F ;;
  { origin := 0x1000, words := [0x9FA0001F], psw := 0x302, pswOut := 0x0, cause := 5, pc := 0x8000 },
  -- add $r1 = $r2, 1 ; sbrk 5 ;;
  { origin := 0x1000, words := [0x08001042, 0x9FA00005], regs := [(2, 1)], cause := 5, pc := 0x8000 },
  -- break ;;
  { origin := 0x1000, words := [0x9FE00000], cause := 6, pc := 0x8000 },
  -- pswclr $r1 ;;
  { origin := 0x1000, words := [0xA9800040], psw := 0x12, regs := [(1, 2)], pswOut := 0x10, pc := 0x1004 }] = true
    := by decide

theorem test_step_illegal : vectorsHold [
  -- (raw words)
  { origin := 0x1000, words := [0xC0000000], cause := 6, pc := 0x8000 }] = true := by decide

theorem test_step_traps : vectorsHold [
  -- ldw $r1 = 2[$r2] ; sbrk 1 ;;
  { origin := 0x1000, words := [0x20002042, 0x9FA00001], regs := [(2, 0x2000)], cause := 5, pc := 0x8000 }] = true
    := by decide

/-! ## Witnesses: states and operands that meet the hypotheses of the statements -/

/-- The outcome is a next state with this property. -/
def answers {σ : Type} (o : Host.Outcome σ Fault Refusal) (p : σ → Bool) : Bool :=
  match o with
  | .next t => p t
  | _ => false

theorem next_of_answers {σ : Type} {o : Host.Outcome σ Fault Refusal} {p : σ → Bool} (h : answers o p = true) :
    ∃ t, o = .next t ∧ p t = true := by
  cases o with
  | next t => exact ⟨t, rfl, h⟩
  | fault _ => cases h
  | refused _ => cases h

/-- The next state of an outcome. -/
def after (o : Host.Outcome State Fault Refusal) : State :=
  match o with
  | .next t => t
  | _ => State.reset

theorem eq_after {o : Host.Outcome State Fault Refusal} (h : answers o (fun _ => true) = true) :
    o = .next (after o) := by
  cases o with
  | next t => rfl
  | fault _ => cases h
  | refused _ => cases h

/-- After reset, with R2 at `a`. -/
def plain (a : Word) : State := State.reset.writeR 2#6 a

/-- The same in user mode. -/
def asUser (s : State) : State := { s with psw := s.psw ||| 1#32 }

/-- With a data breakpoint at `a`. -/
def breaking (a : Word) (s : State) : State :=
  { s with psw := s.psw ||| 0x100#32, dbreak := ⟨a, a, 4#4⟩ }

/-- A small page at 0x2000 that lies at 0x4000. -/
def page (super user : BitVec 3) (dirty : Bool) : TlbEntry :=
  { TlbEntry.zero with
    shared := true, protSuper := super, protUser := user, dirty := dirty, size := 1#3, vaddr := 1#19, paddr := 2#19 }

/-- Translation on with these entries first. -/
def paged (es : List TlbEntry) (s : State) : State :=
  { s with
    psw := s.psw ||| 4#32
    tlb := { s.tlb with entries := (es.zipIdx.foldl (fun v x => v.setIfInBounds x.2 x.1) s.tlb.entries) } }

theorem not_dataBreak {s : State} {a : Word} (h : s.psw.getLsbD 8 = false) : ¬DataBreak s a := by
  rintro ⟨h', -⟩
  rw [h] at h'
  cases h'

theorem not_inCRegSpace {a : Word} (h : a.toNat < 0xFFFF0000) : ¬InCRegSpace a := by
  intro h'
  exact absurd (show 0xFFFF0000 ≤ a.toNat from h') (by omega)

theorem test_witness_ImmediateExtensions :
    State.reset.ext = none ∧ { State.reset with ext := some 0x7FFFFF#23 }.ext = some 0x7FFFFF#23 ∧
    isExtension (.addI 1#6 2#6 3#9) = false := by decide

theorem test_witness_RegisterOnly : RegisterOnly (.addI 0#6 2#6 256#9) ∧ RegisterOnly (.mulfracR 62#6 2#6 3#6) := by
  unfold RegisterOnly
  decide

/-- Loads and stores: translation off, at the last word below control register space. -/
theorem test_witness_ReadPasses : ReadPasses (plain 0xFFFEFFFC#32) 4 0xFFFEFFFC#32 ∧
    ReadableMemory (plain 0xFFFEFFFC#32) (translate (plain 0xFFFEFFFC#32) 0xFFFEFFFC#32) ∧
    (plain 0xFFFEFFFC#32).imm 0#9 + (plain 0xFFFEFFFC#32).r 2#6 = 0xFFFEFFFC#32 ∧
    scuHit (plain 0xFFFEFFFC#32) (translate (plain 0xFFFEFFFC#32) 0xFFFEFFFC#32) = true := by
  refine ⟨⟨not_dataBreak (by decide), not_inCRegSpace (by decide), ?_, ?_, ?_, ?_⟩, ?_, ?_, ?_⟩ <;>
    first | decide | (unfold ReadableMemory; decide)

/-- The same on a page with read permission only. -/
theorem test_witness_ReadPasses_translated : ReadPasses (paged [page 2#3 0#3 false] (plain 0x3FFF#32)) 1 0x3FFF#32 ∧
    ReadableMemory (paged [page 2#3 0#3 false] (plain 0x3FFF#32))
      (translate (paged [page 2#3 0#3 false] (plain 0x3FFF#32)) 0x3FFF#32) := by
  refine ⟨⟨not_dataBreak (by decide), not_inCRegSpace (by decide), ?_, ?_, ?_, ?_⟩, ?_⟩ <;>
    first | decide | (unfold ReadableMemory; decide)

theorem test_witness_WritePasses : WritePasses (paged [page 4#3 0#3 true] (plain 0x2000#32)) 4 0x2000#32 ∧
    WritableMemory (paged [page 4#3 0#3 true] (plain 0x2000#32))
      (translate (paged [page 4#3 0#3 true] (plain 0x2000#32)) 0x2000#32) ∧
    Memory.wf (paged [page 4#3 0#3 true] (plain 0x2000#32)).mem = true := by
  refine ⟨⟨not_dataBreak (by decide), not_inCRegSpace (by decide), ?_, ?_, ?_, ?_⟩, ?_, ?_⟩ <;>
    first | decide | (unfold WritableMemory; decide)

/-- A ROM at 0x2000, which takes no store. -/
theorem test_witness_Rom :
    romAt { Cfg.initial with readOnly := [⟨0x2000#32, 0x2FFF#32⟩] } 0x2000#32 = true ∧
    romAt { Cfg.initial with readOnly := [⟨0x2000#32, 0x2FFF#32⟩] } 0x3000#32 = false ∧
    windowOf { Cfg.initial with readOnly := [⟨0x2000#32, 0x2FFF#32⟩] } 0x2000#32 = .memory := by decide

/-- With a bus that fails at 0x2000 to 0x2003, for data and fetch. -/
def failing (s : State) : State :=
  { s with cfg := { Cfg.initial with busErrors := [⟨0x2000#32, 0x2003#32, true, true⟩] } }

/-- Bus errors: of memory, of a half-word access to the interrupt controller and of the fetch at PC. -/
theorem test_witness_BusErrors :
    ReadPasses (failing (plain 0x2000#32)) 4 0x2000#32 ∧
    ReadFails (failing (plain 0x2000#32)) 4 false 0x2000#32 ∧ scuHit (failing (plain 0x2000#32)) 0x2000#32 = true ∧
    ReadFails (plain 0x1F000000#32) 2 false 0x1F000000#32 ∧ ReadFails (plain 0x1F000000#32) 4 true 0x1F000000#32 ∧
    WritePasses (failing (plain 0x2000#32)) 4 0x2000#32 ∧
    busWriteError (failing (plain 0x2000#32)).cfg 0x2000#32 = true ∧
    windowOf (plain 0#32).cfg 0x1F000000#32 ≠ .memory ∧
    translateFetch (failing (plain 0x2000#32)) 0x2000#32 = .ok 0x2000#32 ∧
    AtBoundary { failing (plain 0#32) with pc := 0x2000#32, nextPc := 0x2000#32 } ∧
    NoDebugDue (failing (plain 0#32)) ∧
    (fetchBundle (noteAccesses (sampleTrigger
      { failing (plain 0#32) with pc := 0x2000#32, nextPc := 0x2000#32 }))).error =
      some ⟨.stbusIcError, 0#32, none⟩ := by
  refine ⟨⟨not_dataBreak ?_, not_inCRegSpace ?_, ?_, ?_, ?_, ?_⟩, ?_, ?_, ?_, ?_,
    ⟨not_dataBreak ?_, not_inCRegSpace ?_, ?_, ?_, ?_, ?_⟩, ?_, ?_, ?_, ⟨⟨?_, ?_, ?_, ?_⟩, ?_, ?_⟩, ?_, ?_⟩ <;>
    first | decide | (unfold ReadFails; decide) | (unfold NoDebugDue DebugRequested; decide)

/-- A half word stored over 5, 6 at 0x2000 and then the byte at 0x2001, neither surely in memory. -/
def storedTwice : State :=
  storeMem (storeMem { plain 0#32 with mem := [(0x2000, 5#8), (0x2001, 6#8)] } .half false 0x2000#32 0x2211#32)
    .byte false 0x2001#32 0x33#32

/-- The write of record `k` is lost. -/
def losing (k : Nat) (s : State) : State :=
  match (s.stale[k]? : Option StaleWord) with
  | some x => undoStore k x s
  | none => s

/-- R190, U6: the old data come back where no later store wrote, in either order of two losses. -/
theorem test_lost_write_leaves_the_old_data :
    storedTwice.mem = [(0x2000, 0x11#8), (0x2001, 0x33#8)] ∧
    (losing 1 storedTwice).mem = [(0x2000, 5#8), (0x2001, 0x33#8)] ∧
    (losing 0 storedTwice).mem = [(0x2000, 0x11#8), (0x2001, 0x22#8)] ∧
    (losing 0 (losing 1 storedTwice)).mem = [(0x2000, 5#8), (0x2001, 6#8)] ∧
    (losing 1 (losing 0 storedTwice)).mem = [(0x2000, 5#8), (0x2001, 6#8)] := by decide

/-- A store that may be on its way, one that is in memory, and a store that passes its checks on uncached memory. -/
theorem test_witness_LateFailure :
    storedTwice.stale[1]? = some ⟨0x2000#32, 0x605#32, .posted, 0#4, 0#4, 3#4⟩ ∧ Memory.wf storedTwice.mem = true ∧
    (storedTwice.stale.map StaleWord.sync)[0]? = some ⟨0x2000#32, 0x2211#32, .inMemory, 0#4, 0#4, 2#4⟩ ∧
    WritePasses (plain 0x2000#32) 4 0x2000#32 ∧ WritableMemory (plain 0x2000#32) 0x2000#32 ∧
    Memory.wf (plain 0x2000#32).mem = true ∧ cachedAccess (plain 0x2000#32) 0x2000#32 = false := by
  refine ⟨?_, ?_, ?_, ⟨not_dataBreak ?_, not_inCRegSpace ?_, ?_, ?_, ?_, ?_⟩, ?_, ?_, ?_⟩ <;>
    first | decide | (unfold WritableMemory; decide)

/-- The second word of the debug ROM and the last register of the DSU, with translation off. -/
theorem test_witness_DebugRom :
    ReadPasses (plain 0x1F004004#32) 4 0x1F004004#32 ∧ WritePasses (plain 0x1F004004#32) 4 0x1F004004#32 ∧
    cachedAccess (plain 0x1F004004#32) 0x1F004004#32 = false ∧
    windowOf (plain 0#32).cfg (translate (plain 0x1F004004#32) 0x1F004004#32) = .rom 4 ∧
    scuHit (plain 0#32) 0x1F004004#32 = true ∧ ReadPasses (plain 0x1F0010F8#32) 4 0x1F0010F8#32 ∧
    windowOf (plain 0#32).cfg (translate (plain 0x1F0010F8#32) 0x1F0010F8#32) ≠ .memory ∧
    scuHit (plain 0#32) 0x1F0010F8#32 = true := by
  refine ⟨⟨not_dataBreak ?_, not_inCRegSpace ?_, ?_, ?_, ?_, ?_⟩, ⟨not_dataBreak ?_, not_inCRegSpace ?_, ?_, ?_, ?_, ?_⟩,
    ?_, ?_, ?_, ⟨not_dataBreak ?_, not_inCRegSpace ?_, ?_, ?_, ?_, ?_⟩, ?_, ?_⟩ <;> decide

/-- A dismissible load gives 0: in control register space (first and last address), misaligned, unmapped, without read
permission and outside every SCU region. -/
theorem test_witness_Dismissible :
    (¬DataBreak (plain 0xFFFF0000#32) 0xFFFF0000#32 ∧ InCRegSpace 0xFFFF0000#32 ∧ InCRegSpace 0xFFFFFFFF#32) ∧
    ((0x2002#32).toNat % 4 ≠ 0 ∧ (plain 0x2002#32).psw.getLsbD 4 = false ∧
      multiMapping (plain 0x2002#32) 0x2002#32 = false ∧ noTranslation (plain 0x2002#32) 0x2002#32 = false) ∧
    (noTranslation (paged [] (plain 0x2000#32)) 0x2000#32 = true ∧
      (paged [] (plain 0x2000#32)).psw.getLsbD 3 = false ∧
      multiMapping (paged [] (plain 0x2000#32)) 0x2000#32 = false) ∧
    (readViolation (paged [page 4#3 0#3 true] (plain 0x2000#32)) 0x2000#32 = true ∧
      multiMapping (paged [page 4#3 0#3 true] (plain 0x2000#32)) 0x2000#32 = false) ∧
    (scuHit { plain 0x2000#32 with scu := Vector.replicate 4 ⟨3#19, 2#19⟩ } 0x2000#32 = false ∧
      noTranslation { plain 0x2000#32 with scu := Vector.replicate 4 ⟨3#19, 2#19⟩ } 0x2000#32 = false) := by
  refine ⟨⟨not_dataBreak (by decide), ?_, ?_⟩, ?_, ?_, ?_, ?_⟩ <;> first | decide | (unfold InCRegSpace; decide)

/-- What a load or store raises, clause by clause. -/
theorem test_witness_Raises :
    (DataBreak (breaking 0x2002#32 (plain 0x2002#32)) 0x2002#32 ∧
      DataBreak (breaking 0xFFFFFFF9#32 (plain 0xFFFFFFF9#32)) 0xFFFFFFF9#32) ∧
    (¬DataBreak (plain 0xFFFF0000#32) 0xFFFF0000#32 ∧ InCRegSpace 0xFFFF0000#32) ∧
    (¬InCRegSpace 0xFFFEFFFF#32 ∧ (0xFFFEFFFF#32).toNat % 2 ≠ 0) ∧
    ((0x2000#32).toNat % 4 = 0 ∧ NotTranslated readViolation (paged [] (plain 0x2000#32)) 0x2000#32 ∧
      NotTranslated writeViolation (paged [page 4#3 0#3 false] (plain 0x2000#32)) 0x2000#32 ∧
      NotTranslated readViolation (paged [page 7#3 0#3 true, page 7#3 0#3 true] (plain 0x2000#32)) 0x2000#32) := by
  refine ⟨⟨?_, ?_⟩, ⟨not_dataBreak (by decide), ?_⟩, ⟨not_inCRegSpace (by decide), ?_⟩, ?_, ?_, ?_, ?_⟩ <;>
    first | decide | (unfold DataBreak; decide) | (unfold InCRegSpace; decide) | (unfold NotTranslated; decide)

/-- What a dismissible load raises: on request misaligned or unmapped, and always for two pages. -/
theorem test_witness_DismissibleRaises :
    { plain 0x2002#32 with psw := 0x10#32 }.psw.getLsbD 4 = true ∧
    (noTranslation (paged [] { plain 0x2000#32 with psw := 8#32 }) 0x2000#32 = true ∧
      (paged [] { plain 0x2000#32 with psw := 8#32 }).psw.getLsbD 3 = true) ∧
    multiMapping (paged [page 7#3 0#3 true, page 7#3 0#3 true] (plain 0x2000#32)) 0x2000#32 = true := by decide

theorem test_witness_LoadsChangeOnlyTheirDestination : IsLoad (.ldbD 5#6 2#6 0#9) 5#6 2#6 0#9 ∧
    ¬InCRegSpace ((plain 0xFFFEFFFF#32).imm 0#9 + (plain 0xFFFEFFFF#32).r 2#6) ∧
    (plain 0xFFFEFFFF#32).signal = .done ∧
    ∃ t, exec (.ldbD 5#6 2#6 0#9) (plain 0xFFFEFFFF#32) = .next t ∧ (t.signal == .done) = true := by
  refine ⟨?_, not_inCRegSpace (by decide), by decide, next_of_answers (by decide)⟩
  unfold IsLoad
  decide

theorem test_witness_StoresChangeOnlyTheirBytes : IsStore (.sth 2#6 2#6 0#9) 2 2#6 2#6 0#9 ∧
    ¬InCRegSpace ((plain 0x2002#32).imm 0#9 + (plain 0x2002#32).r 2#6) ∧ (plain 0x2002#32).signal = .done ∧
    ∃ t, exec (.sth 2#6 2#6 0#9) (plain 0x2002#32) = .next t ∧ (t.signal == .done) = true := by
  refine ⟨?_, not_inCRegSpace (by decide), by decide, next_of_answers (by decide)⟩
  unfold IsStore
  decide

/-- The state after `stw` of R2 at 0x2000. -/
def stored : State := after (exec (.stw 2#6 2#6 0#9) (plain 0x2000#32))

/-- A load of the upper half-word just stored. -/
theorem test_witness_LoadsAfterStores : IsStore (.stw 2#6 2#6 0#9) 4 2#6 2#6 0#9 ∧
    IsNormalLoad (.ldh 1#6 2#6 2#9) 2 true 1#6 2#6 2#9 ∧ WritePasses (plain 0x2000#32) 4 0x2000#32 ∧
    WritableMemory (plain 0x2000#32) (translate (plain 0x2000#32) 0x2000#32) ∧
    exec (.stw 2#6 2#6 0#9) (plain 0x2000#32) = .next stored ∧ stored.imm 2#9 + stored.r 2#6 = 0x2002#32 ∧
    ReadPasses stored 2 0x2002#32 ∧ translate stored 0x2002#32 = 0x2002#32 ∧ ReadableMemory stored 0x2002#32 := by
  refine ⟨?_, ?_, ⟨not_dataBreak ?_, not_inCRegSpace ?_, ?_, ?_, ?_, ?_⟩, ?_, eq_after ?_, ?_,
    ⟨not_dataBreak ?_, not_inCRegSpace ?_, ?_, ?_, ?_, ?_⟩, ?_, ?_⟩ <;>
    first
    | decide
    | (unfold IsStore; decide)
    | (unfold IsNormalLoad; decide)
    | (unfold WritableMemory; decide)
    | (unfold ReadableMemory; decide)

/-! ### Control registers, SDI ports, peripheral registers -/

theorem test_witness_ControlRegisterAccessFaults :
    (¬CRegOffset 0 ∧ ¬CRegOffset 0xFFFC ∧ ¬CRegOffset 0xFDD8 ∧ CRegOffset 0xFFF8 ∧ CRegOffset 0xD000) ∧
    ((plain 0xFFFF0000#32).r 2#6).toNat = 0xFFFF0000 + 0 ∧ ¬DataBreak (plain 0xFFFF0000#32) 0xFFFF0000#32 ∧
    (asUser (plain 0xFFFFD000#32)).psw.getLsbD 0 = true ∧ ¬OpenToUser (asUser (plain 0xFFFFD000#32)) 0xD000 ∧
    ¬OpenToUser (asUser (plain 0xFFFFE000#32)) 0xE000 ∧ CRegOffset 0xE000 := by
  refine ⟨⟨?_, ?_, ?_, ?_, ?_⟩, by decide, not_dataBreak (by decide), by decide, ?_, ?_, ?_⟩ <;>
    first | (unfold CRegOffset; decide) | (unfold OpenToUser; decide)

/-- A supervisor's loads and stores of PSW, the last register, and SCU_BASE0, the first; TLB_INDEX selects an entry. -/
theorem test_witness_CRegReads_and_CRegWrites :
    (plain 0xFFFFFFF8#32).psw.getLsbD 0 = false ∧ ¬DataBreak (plain 0xFFFFFFF8#32) 0xFFFFFFF8#32 ∧
    ((plain 0xFFFFFFF8#32).imm 0#9 + (plain 0xFFFFFFF8#32).r 2#6).toNat = 0xFFFF0000 + 0xFFF8 ∧
    ((plain 0xFFFFD000#32).imm 0#9 + (plain 0xFFFFD000#32).r 2#6).toNat = 0xFFFF0000 + 0xD000 ∧
    (plain 0xFFFFFF78#32).tlb.entries[(plain 0xFFFFFF78#32).tlb.index.toNat]? = some TlbEntry.zero := by
  refine ⟨by decide, not_dataBreak (by decide), ?_⟩
  decide

/-- With these items in the channels of all ports, and PRIV 1. -/
def channels (items : List Word) (s : State) : State :=
  let f (p : SdiPort) : SdiPort := { p with chan := items, priv := 1#2 }
  { s with sdi := #v[f s.sdi[0], f s.sdi[1], f s.sdi[2], f s.sdi[3]] }

/-- DATA of ports 0 (input) and 3 (output), in supervisor and in user mode. -/
theorem test_witness_SdiDataMovesItems :
    SdiAccess 0 (channels [7#32] (asUser (plain 0xFFFFE000#32))) 0 0xFFFFE000#32 ∧
    (channels [7#32] (asUser (plain 0xFFFFE000#32))).sdi[(0 : Fin 4)].chan = 7#32 :: [] ∧
    (plain 0#32).cfg.sdi[(0 : Fin 4)].isInput = true ∧
    SdiAccess 0 (plain 0xFFFFEC00#32) 3 0xFFFFEC00#32 ∧
    SdiAccess 8 (channels [] (asUser (plain 0xFFFFEC08#32))) 3 0xFFFFEC08#32 ∧ (plain 0#32).cfg.sdi[(3 : Fin 4)].isInput = false ∧
    (plain 0#32).sdi[(3 : Fin 4)].chan.length < (plain 0#32).cfg.sdi[(3 : Fin 4)].depth := by
  refine ⟨⟨not_dataBreak ?_, ?_, ?_, ?_⟩, ?_, ?_, ⟨not_dataBreak ?_, ?_, ?_, ?_⟩, ⟨not_dataBreak ?_, ?_, ?_, ?_⟩, ?_, ?_⟩ <;>
    decide

/-- An empty input channel and a full output channel, the time-out running and at its end. -/
theorem test_witness_SdiAccessesWaitOrTimeOut :
    SdiAccess 0 (plain 0xFFFFE000#32) 0 0xFFFFE000#32 ∧ (plain 0xFFFFE000#32).sdi[(0 : Fin 4)].chan = [] ∧
    (plain 0xFFFFE000#32).sdi[(0 : Fin 4)].timeout ≠ 0#32 ∧
    SdiAccess 0 (channels [1#32, 2#32, 3#32, 4#32] (plain 0xFFFFEC00#32)) 3 0xFFFFEC00#32 ∧
    (plain 0#32).cfg.sdi[(3 : Fin 4)].depth ≤
      (channels [1#32, 2#32, 3#32, 4#32] (plain 0#32)).sdi[(3 : Fin 4)].chan.length ∧
    { (plain 0#32).sdi[(0 : Fin 4)] with timeout := 0#32 }.timeoutDisable = false := by
  refine ⟨⟨not_dataBreak ?_, ?_, ?_, ?_⟩, ?_, ?_, ⟨not_dataBreak ?_, ?_, ?_, ?_⟩, ?_, ?_⟩ <;> decide

/-- `ldw $r1 = 0[$r2]` of port 0's DATA held, with these items in the channel and interrupts enabled. -/
def held (items : List Word) : State :=
  { channels items (plain 0xFFFFE000#32) with waiting := some [0xA0000042#32], psw := 2#32 }

/-- What the held bundle comes to in its next turn. -/
def turnOf (s : State) : BundleEnd :=
  match evalWords (noteAccesses (sampleTrigger s)) [0xA0000042#32] with
  | .next b => b
  | _ => ⟨.debug, s⟩

theorem turn_eq {s : State}
    (h : answers (evalWords (noteAccesses (sampleTrigger s)) [0xA0000042#32]) (fun _ => true) = true) :
    evalWords (noteAccesses (sampleTrigger s)) [0xA0000042#32] = .next (turnOf s) := by
  unfold turnOf
  revert h
  cases evalWords (noteAccesses (sampleTrigger s)) [0xA0000042#32] <;> simp [answers]

/-- With the trigger input high and enabled. -/
def triggered (s : State) : State := { s with dsu := { s.dsu with triggerEnable := true, triggerIn := true } }

/-- The held load can proceed; it waits; and it waits with an interrupt, a bus error, a debug interrupt or the trigger
due, outside and inside debug mode. -/
theorem test_witness_StallTurn :
    (StallTurn (held [7#32]) [0xA0000042#32] (turnOf (held [7#32])) ∧
      (turnOf (held [7#32])).ending = .committed [.ldw 1#6 2#6 0#9]) ∧
    (StallTurn (held []) [0xA0000042#32] (turnOf (held [])) ∧ (turnOf (held [])).ending = .waiting [0xA0000042#32] ∧
      (held []).busErrorPending = false ∧ (held []).irq = false) ∧
    (StallTurn { held [] with intc := { (held []).intc with irqMaster := true } } [0xA0000042#32]
        (turnOf { held [] with intc := { (held []).intc with irqMaster := true } }) ∧
      { held [] with intc := { (held []).intc with irqMaster := true } }.irq = true ∧
      (held []).psw.getLsbD 1 = true) ∧
    StallTurn { held [] with busErrorPending := true } [0xA0000042#32]
      (turnOf { held [] with busErrorPending := true }) ∧
    StallTurn { held [] with dsu := { (held []).dsu with irqPending := true } } [0xA0000042#32]
      (turnOf { held [] with dsu := { (held []).dsu with irqPending := true } }) ∧
    (StallTurn (triggered (held [])) [0xA0000042#32] (turnOf (triggered (held []))) ∧
      DebugRequested (triggered (held [])) ∧ (held []).psw.getLsbD 12 = false ∧
      (turnOf (triggered (held []))).ending = .waiting [0xA0000042#32] ∧
      NoDebugDue (triggered { held [] with psw := 0x1000#32 })) ∧
    SdiAccess 0 (held [7#32]) 0 0xFFFFE000#32 ∧ decodeSyllable 0xA0000042#32 = .ok (.ldw 1#6 2#6 0#9) := by
  refine ⟨⟨?_, ?_⟩, ⟨?_, ?_⟩, ⟨?_, ?_⟩, ?_, ?_, ⟨?_, .inr ⟨rfl, rfl⟩, ?_, ?_, .inr ?_⟩,
    ⟨not_dataBreak ?_, ?_, ?_, ?_⟩, rfl⟩ <;>
    first
    | decide
    | exact ⟨⟨rfl, rfl, rfl, rfl⟩, rfl, rfl, turn_eq (by decide)⟩

/-- The interrupt controller's first register and TIMEDIVIDE, with translation off. -/
theorem test_witness_PeripheralRead :
    PeripheralRead (plain 0x1F000000#32) 0x1F000000#32 (plain 0#32).cfg.intcrBase 0 ∧
    PeripheralRead (plain 0x1F000248#32) 0x1F000248#32 (plain 0#32).cfg.intcrBase 0x248 ∧
    PeripheralWrite (plain 0x1F000248#32) 0x1F000248#32 (plain 0#32).cfg.intcrBase 0x248 := by
  refine ⟨⟨⟨not_dataBreak ?_, not_inCRegSpace ?_, ?_, ?_, ?_, ?_⟩, ?_, ?_⟩,
    ⟨⟨not_dataBreak ?_, not_inCRegSpace ?_, ?_, ?_, ?_, ?_⟩, ?_, ?_⟩,
    ⟨⟨not_dataBreak ?_, not_inCRegSpace ?_, ?_, ?_, ?_, ?_⟩, ?_⟩⟩ <;> decide

/-- A reserved register, and the last offset of the block. -/
theorem test_witness_ReservedPeripheral :
    PeripheralRead (plain 0x1F000050#32) 0x1F000050#32 (plain 0#32).cfg.intcrBase 0x50 ∧
    PeripheralWrite (plain 0x1F00024C#32) 0x1F00024C#32 (plain 0#32).cfg.intcrBase 0x24C ∧
    0x50 ∉ intcOffsets ∧ 0x24C ∉ intcOffsets := by
  refine ⟨⟨⟨not_dataBreak ?_, not_inCRegSpace ?_, ?_, ?_, ?_, ?_⟩, ?_, ?_⟩,
    ⟨⟨not_dataBreak ?_, not_inCRegSpace ?_, ?_, ?_, ?_, ?_⟩, ?_⟩, ?_, ?_⟩ <;> decide

/-- DSR0 and DSR31. -/
theorem test_witness_DebugSupportRegisters :
    PeripheralRead (plain 0x1F001000#32) 0x1F001000#32 (plain 0#32).cfg.dsuBase (8 * 0) ∧
    windowOf (plain 0#32).cfg (translate (plain 0x1F001000#32) 0x1F001000#32) = .dsu (8 * 0) ∧
    PeripheralWrite (plain 0x1F0010F8#32) 0x1F0010F8#32 (plain 0#32).cfg.dsuBase (8 * 31) ∧
    windowOf (plain 0#32).cfg (translate (plain 0x1F0010F8#32) 0x1F0010F8#32) = .dsu (8 * 31) := by
  refine ⟨⟨⟨not_dataBreak ?_, not_inCRegSpace ?_, ?_, ?_, ?_, ?_⟩, ?_, ?_⟩, ?_,
    ⟨⟨not_dataBreak ?_, not_inCRegSpace ?_, ?_, ?_, ?_, ?_⟩, ?_⟩, ?_⟩ <;> decide

/-- Three timers five ticks from their end. -/
def ticking : Timers := ⟨Vector.replicate 3 ⟨9#32, 5#32, true, true, false⟩, 2#16, 1#16⟩

theorem test_witness_TimersExpire :
    ticking.timer[(2 : Fin 3)].enable = true ∧ ticking.timer[(2 : Fin 3)].count.toNat = 5 ∧
    State.reset.timers.timer[(0 : Fin 3)].enable = false := by
  decide

/-- Counting on, counter 0 of instructions, counter 1 of exceptions, counter 2 of EXTERN_INT. -/
def counting : State :=
  { plain 0#32 with pm := { State.reset.pm with enb := true, events := #v[18#5, 14#5, 15#5, 0#5] } }

theorem test_witness_PerformanceCounters : counting.pm.enb = true ∧ counting.cregStored = none ∧
    committedEvents counting [.addI 1#6 2#6 3#9, .imml 5#23] counting.pm.events[(0 : Fin 4)].toNat = some 1 ∧
    trapEvents .syscall counting.pm.events[(1 : Fin 4)].toNat = some 1 ∧
    trapEvents .externInt counting.pm.events[(2 : Fin 4)].toNat = some 1 ∧
    counting.pm.events[(1 : Fin 4)] = 14#5 ∧ counting.pm.events[(2 : Fin 4)].toNat = 15 ∧
    { counting with cregStored := some (.pmCnt 0) }.cregStored = some (.pmCnt 0) ∧ (plain 0#32).pm.enb = false := by
  decide

theorem test_witness_EnvironmentInputs :
    (plain 0#32).cfg.sdi[(0 : Fin 4)].isInput = true ∧ (plain 0#32).coreIdle = false ∧
    (plain 0#32).sdi[(0 : Fin 4)].resetIn = false ∧ (plain 0#32).sdi[(0 : Fin 4)].resetOut = false ∧
    (channels [1#32, 2#32, 3#32] (plain 0#32)).sdi[(0 : Fin 4)].chan.length <
      (plain 0#32).cfg.sdi[(0 : Fin 4)].depth ∧
    (channels [1#32] (plain 0#32)).sdi[(3 : Fin 4)].chan = 1#32 :: [] ∧ 3 ≤ (3 : Fin 32).val ∧
    (0#3 ≠ 1#3) ∧ (plain 0#32).cfg.debugVariant = .taplink ∧ 32 < (List.replicate 33 0#32).length ∧
    windowOf (plain 0#32).cfg 0x1F000010#32 = .intc 0x10 ∧
    windowOf (plain 0#32).cfg 0x1F001018#32 = .dsu (8 * (3 : Fin 32).val) ∧
    { State.reset.dsu with outputPending := true }.outputPending = true := by decide

/-! ### Translation -/

theorem only_of_sizes {t : Tlb} {a : Word} {i : Fin 64} (h : Matches t a i)
    (hs : ∀ j : Fin 64, t.entries[j].size ≠ 0#3 → j = i) : OnlyMatch t a i := by
  refine ⟨h, fun j hj => hs j fun h0 => ?_⟩
  obtain ⟨k, hk, -⟩ := hj
  rcases hk with ⟨h1, -⟩ | ⟨h1, -⟩ | ⟨h1, -⟩ <;> rw [h0] at h1 <;> exact absurd h1 (by decide)

theorem none_of_sizes {t : Tlb} {a : Word} (hs : ∀ j : Fin 64, t.entries[j].size = 0#3) : ∀ i, ¬Matches t a i := by
  rintro j ⟨k, hk, -⟩
  rcases hk with ⟨h1, -⟩ | ⟨h1, -⟩ | ⟨h1, -⟩ <;> rw [hs j] at h1 <;> exact absurd h1 (by decide)

/-- Nothing has been changed and nothing used. -/
theorem coherent_of_empty {s : State} (h : s.psw.getLsbD 2 = true) (e : s.tlb.history = TlbHistory.empty) :
    CoherentTlb s := by
  refine ⟨h, ?_, ?_, ?_, ?_⟩ <;> rw [e]
  · rfl
  · rfl
  · exact fun x hx => absurd hx List.not_mem_nil
  · exact fun x hx => absurd hx List.not_mem_nil

/-- A page that only a supervisor may read, at the end of its range, alone. -/
theorem test_witness_OnlyMatch : CoherentTlb (paged [page 3#3 0#3 false] (plain 0x3FFF#32)) ∧
    OnlyMatch (paged [page 3#3 0#3 false] (plain 0x3FFF#32)).tlb 0x3FFF#32 0 ∧
    PageBits (paged [page 3#3 0#3 false] (plain 0x3FFF#32)).tlb.entries[(0 : Fin 64)] 13 ∧
    Permits (paged [page 3#3 0#3 false] (plain 0x3FFF#32))
      (paged [page 3#3 0#3 false] (plain 0x3FFF#32)).tlb.entries[(0 : Fin 64)] 0 ∧
    ¬Permits (paged [page 3#3 0#3 false] (plain 0x3FFF#32))
      (paged [page 3#3 0#3 false] (plain 0x3FFF#32)).tlb.entries[(0 : Fin 64)] 2 ∧
    ReachesTlb (paged [page 3#3 0#3 false] (plain 0x3FFF#32)) 1 0x3FFF#32 := by
  refine ⟨coherent_of_empty (by decide) rfl, only_of_sizes ⟨13, ?_, ?_, ?_⟩ ?_, ?_, ?_, ?_,
    ⟨not_dataBreak ?_, not_inCRegSpace ?_, ?_⟩⟩ <;>
    first | decide | (unfold PageBits; decide) | (unfold Permits; decide)

/-- In user mode the same page permits nothing; and a page that may be written but is clean. -/
theorem test_witness_NotPermitted :
    ¬Permits (asUser (paged [page 3#3 0#3 false] (plain 0x2000#32))) (page 3#3 0#3 false) 0 ∧
    ¬Permits (asUser (paged [page 3#3 0#3 false] (plain 0x2000#32))) (page 3#3 0#3 false) 1 ∧
    Permits (paged [page 4#3 0#3 false] (plain 0x2000#32)) (page 4#3 0#3 false) 2 ∧ (page 4#3 0#3 false).dirty = false ∧
    OnlyMatch (paged [page 4#3 0#3 false] (plain 0x2000#32)).tlb 0x2000#32 0 := by
  refine ⟨?_, ?_, ?_, ?_, only_of_sizes ⟨13, ?_, ?_, ?_⟩ ?_⟩ <;>
    first | decide | (unfold PageBits; decide) | (unfold Permits; decide)

/-- No page, and two. -/
theorem test_witness_NoMatch_and_SeveralMatch : CoherentTlb (paged [] (plain 0x2000#32)) ∧
    (∀ i, ¬Matches (paged [] (plain 0x2000#32)).tlb 0x2000#32 i) ∧
    CoherentTlb (paged [page 7#3 0#3 true, page 7#3 0#3 true] (plain 0x2000#32)) ∧
    SeveralMatch (paged [page 7#3 0#3 true, page 7#3 0#3 true] (plain 0x2000#32)).tlb 0x2000#32 ∧
    IsNormalLoad (.ldw 1#6 2#6 0#9) 4 false 1#6 2#6 0#9 ∧ IsStore (.stw 1#6 2#6 0#9) 4 1#6 2#6 0#9 := by
  refine ⟨coherent_of_empty (by decide) rfl, none_of_sizes (by decide), coherent_of_empty (by decide) rfl,
    ⟨0, 1, by decide, ⟨13, ?_, ?_, ?_⟩, ⟨13, ?_, ?_, ?_⟩⟩, ?_, ?_⟩ <;>
    first | decide | (unfold PageBits; decide) | (unfold IsNormalLoad; decide) | (unfold IsStore; decide)

/-- The unmapped address of a `prgadd` or dismissible load with TLB_DYNAMIC set. -/
theorem test_witness_SpeculativeCause : CoherentTlb (paged [] { plain 0x2000#32 with psw := 8#32 }) ∧
    (∀ i, ¬Matches (paged [] { plain 0x2000#32 with psw := 8#32 }).tlb 0x2000#32 i) ∧
    (paged [] { plain 0x2000#32 with psw := 8#32 }).psw.getLsbD 3 = true ∧ ¬InCRegSpace 0x2000#32 ∧
    ¬DataBreak (paged [] { plain 0x2000#32 with psw := 8#32 }) 0x2000#32 ∧
    IsDismissibleLoad (.ldhD 1#6 2#6 0#9) 2 1#6 2#6 0#9 := by
  refine ⟨coherent_of_empty (by decide) rfl, none_of_sizes (by decide), by decide, not_inCRegSpace (by decide),
    not_dataBreak (by decide), ?_⟩
  unfold IsDismissibleLoad
  decide

/-! ### Control transfer, PSW, traps and caches -/

theorem test_witness_BranchesAndCallsJump : (plain 0#32).slrValid = true := by decide

theorem test_witness_Goto : EntersIdle { plain 0#32 with nextPc := (plain 0#32).pc + 4#32 } 0#23 ∧
    ¬EntersIdle { plain 0#32 with nextPc := (plain 0#32).pc + 4#32 } 1#23 ∧
    ¬EntersIdle { plain 0#32 with nextPc := (plain 0#32).pc + 8#32 } 0#23 := by
  unfold EntersIdle
  decide

/-- An idle core, without and with the interrupt enabled that would wake it. -/
theorem test_witness_IdleCore : { plain 0#32 with coreIdle := true }.coreIdle = true ∧
    { plain 0#32 with coreIdle := true }.dsu.triggerEnable = false ∧
    { plain 0#32 with coreIdle := true }.dsu.irqPending = false ∧
    { plain 0#32 with coreIdle := true }.busErrorPending = false ∧
    { plain 0#32 with coreIdle := true }.irq = false ∧
    { plain 0#32 with coreIdle := true, psw := 0x1000#32 }.psw.getLsbD 12 = true := by
  decide

theorem test_witness_Supervisor : (plain 0#32).psw.getLsbD 0 = false ∧ (asUser (plain 0#32)).psw.getLsbD 0 = true := by
  decide

theorem test_witness_IsPrivileged : IsPrivileged .rfi ∧ IsPrivileged .prgins ∧ IsPrivileged (.pswset 0#6) ∧
    IsPrivileged (.pswclr 63#6) ∧ IsPrivileged (.prginspg 1#6 256#9) := by
  refine ⟨.inl rfl, .inr (.inl rfl), .inr (.inr (.inl ⟨_, rfl⟩)), .inr (.inr (.inr (.inl ⟨_, rfl⟩))),
    .inr (.inr (.inr (.inr ⟨_, _, rfl⟩)))⟩

/-- `prgadd` in control register space, on a mapped and on an unmapped address, without and with TLB_DYNAMIC. -/
theorem test_witness_Prgadd : InCRegSpace 0xFFFF0000#32 ∧ multiMapping (plain 0x2000#32) 0x2000#32 = false ∧
    noTranslation (plain 0x2000#32) 0x2000#32 = false ∧ ¬InCRegSpace 0x2000#32 ∧
    noTranslation (paged [] (plain 0x2000#32)) 0x2000#32 = true ∧
    (paged [] (plain 0x2000#32)).psw.getLsbD 3 = false ∧
    (paged [] { plain 0x2000#32 with psw := 8#32 }).psw.getLsbD 3 = true := by
  refine ⟨?_, ?_, ?_, not_inCRegSpace ?_, ?_⟩ <;> first | decide | (unfold InCRegSpace; decide)

/-- The sequence of R189, on the word just stored. -/
theorem test_witness_CoherencySequence :
    let s1 := after (exec (.prgadd 2#6 0#9) stored)
    let s2 := after (exec .sync s1)
    let s3 := after (exec .prgins s2)
    ¬InCRegSpace (stored.imm 0#9 + stored.r 2#6) ∧ noTranslation stored 0x2000#32 = false ∧
    multiMapping stored 0x2000#32 = false ∧ readViolation stored 0x2000#32 = false ∧ stored.psw.getLsbD 0 = false ∧
    exec (.prgadd 2#6 0#9) stored = .next s1 ∧ exec .sync s1 = .next s2 ∧ exec .prgins s2 = .next s3 ∧
    exec (.pswset 0#6) s3 = .next (after (exec (.pswset 0#6) s3)) ∧
    (0x2000#32).toNat / 32 = (translate stored 0x2000#32).toNat / 32 := by
  intro s1 s2 s3
  refine ⟨not_inCRegSpace ?_, ?_, ?_, ?_, ?_, eq_after ?_, eq_after ?_, eq_after ?_, eq_after ?_, ?_⟩ <;> decide

/-- The same with an uncached store in place of the purge, and with an uncached load in place of purge and `sync`. -/
theorem test_witness_UncachedAccessSequence :
    let s1 := after (exec (.stb 2#6 2#6 0#9) stored)
    let s2 := after (exec .sync s1)
    let s3 := after (exec .prgins s2)
    let l1 := after (exec (.ldb 3#6 2#6 0#9) stored)
    let l2 := after (exec .prgins l1)
    WritePasses stored 1 0x2000#32 ∧ ReadPasses stored 1 0x2000#32 ∧
    windowOf stored.cfg (translate stored 0x2000#32) = .memory ∧ cachedAccess stored 0x2000#32 = false ∧
    exec (.stb 2#6 2#6 0#9) stored = .next s1 ∧ exec .sync s1 = .next s2 ∧ exec .prgins s2 = .next s3 ∧
    exec (.pswset 0#6) s3 = .next (after (exec (.pswset 0#6) s3)) ∧
    exec (.ldb 3#6 2#6 0#9) stored = .next l1 ∧ exec .prgins l1 = .next l2 ∧
    exec (.pswset 0#6) l2 = .next (after (exec (.pswset 0#6) l2)) ∧
    IsDismissibleLoad (.ldbD 3#6 2#6 0#9) 1 3#6 2#6 0#9 ∧ scuHit stored 0x2000#32 = true ∧
    scuHit { stored with scu := Vector.replicate 4 ⟨0x10#19, 0x10#19⟩ } 0x2000#32 = false := by
  intro s1 s2 s3 l1 l2
  refine ⟨⟨not_dataBreak ?_, not_inCRegSpace ?_, ?_, ?_, ?_, ?_⟩, ⟨not_dataBreak ?_, not_inCRegSpace ?_, ?_, ?_, ?_, ?_⟩,
    ?_, ?_, eq_after ?_, eq_after ?_, eq_after ?_, eq_after ?_, eq_after ?_, eq_after ?_, eq_after ?_, ?_, ?_, ?_⟩ <;>
    first | decide | (unfold IsDismissibleLoad; decide)

/-- R179: a word stored through a cached page leaves the caches with an uncached load of its line, not of the next. -/
theorem test_uncached_load_purges_its_line :
    (touchLine StaleWord.readLine false 0x201C#32
      { plain 0#32 with stale := [⟨0x2000#32, 5#32, .cached, 0#4, 0#4, 15#4⟩] }).stale =
        [⟨0x2000#32, 5#32, .inMemory, 0#4, 0#4, 15#4⟩] ∧
    (touchLine StaleWord.readLine false 0x2020#32
      { plain 0#32 with stale := [⟨0x2000#32, 5#32, .cached, 0#4, 0#4, 15#4⟩] }).stale =
        [⟨0x2000#32, 5#32, .cached, 0#4, 0#4, 15#4⟩] := by decide

/-- R191: with every SCU region elsewhere, an uncached dismissible load takes the line out of the data cache, and no more. -/
theorem test_refused_dismissible_load_purges_its_line :
    (disRead .word id 0x2000#32 1#6 { plain 0#32 with
        scu := Vector.replicate 4 ⟨0x10#19, 0x10#19⟩
        stale := [⟨0x2000#32, 5#32, .cached, 0#4, 0#4, 15#4⟩, ⟨0x2004#32, 6#32, .posted, 0#4, 0#4, 15#4⟩] }).stale =
      [⟨0x2000#32, 5#32, .posted, 0#4, 0#4, 15#4⟩, ⟨0x2004#32, 6#32, .posted, 0#4, 0#4, 15#4⟩] := by decide

/-- R192, R522: a bus error of the second syllable's fetch invalidates its line: of the words stored there the one in memory
is fetched new in that quadrant, the one under way, and one of the next line, maybe not. -/
theorem test_fetch_bus_error_invalidates_its_line :
    let s := { failing (plain 0#32) with
      pc := 0x1FFC#32
      stale := [⟨0x203C#32, 5#32, .inMemory, 0#4, 0#4, 15#4⟩, ⟨0x2010#32, 6#32, .posted, 0#4, 0#4, 15#4⟩,
        ⟨0x2040#32, 7#32, .inMemory, 0#4, 0#4, 15#4⟩] }
    (match evalBundle [] s with
      | .next e => (finish s e).stale
      | _ => []) =
      [⟨0x203C#32, 5#32, .inMemory, 2#4, 2#4, 15#4⟩, ⟨0x2010#32, 6#32, .posted, 0#4, 0#4, 15#4⟩,
        ⟨0x2040#32, 7#32, .inMemory, 0#4, 0#4, 15#4⟩] := by decide

/-- R517, R171: an invalidation that no `syncins` has followed yet. -/
def invalidatedBefore : State :=
  { plain 0#32 with stale := [⟨0x2000#32, 5#32, .inMemory, 15#4, 0#4, 15#4⟩, ⟨0x2004#32, 6#32, .inMemory, 1#4, 0#4, 15#4⟩] }

/-- Trap entry and debug entry make it effective. -/
theorem test_trap_empties_the_instruction_buffer :
    (finish invalidatedBefore ⟨.trapped .syscall, invalidatedBefore⟩).stale =
      [⟨0x2004#32, 6#32, .inMemory, 1#4, 1#4, 15#4⟩] ∧
    (finish invalidatedBefore ⟨.debug, invalidatedBefore⟩).stale = [⟨0x2004#32, 6#32, .inMemory, 1#4, 1#4, 15#4⟩] := by
  decide

/-- So does a branch beside a `prginspg` of the same page, quadrant 1, which stays to be cleared itself. -/
theorem test_branch_beside_prginspg :
    (finish invalidatedBefore ⟨.committed [.gotoImm 1#23, .prginspg 2#6 0#9],
      { invalidatedBefore with stale := invalidatedBefore.stale.map (fun x => x.invalidatePage 0x2001#32) }⟩).stale =
      [⟨0x2004#32, 6#32, .inMemory, 3#4, 1#4, 15#4⟩] := by decide

/-- A state whose ITLB holds a copy of a page that has since been made read-only, and whose DTLB of a present one. -/
def changed : State :=
  let s := paged [page 2#3 0#3 false] ((plain 0xFFFFFF50#32).writeR 3#6 3#32)
  { s with tlb := { s.tlb with history :=
      ⟨⟨[⟨0, page 7#3 0#3 false⟩], []⟩, ⟨[⟨0, page 2#3 0#3 false⟩], []⟩, [.entry ⟨0, page 7#3 0#3 false⟩], []⟩ } }

/-- The change leaves the old translation in use for a fetch of the page. -/
theorem test_stale_translation_is_in_use :
    olderLookups .fetch changed.tlb 0x2000#32 ≠ [] ∧
    olderLookups .fetch (changed.tlb.flush true true).settle 0x2000#32 = [] := by decide

/-- R250: while the data side holds a copy of one of two matching entries, the second match may stay unnoticed. -/
theorem test_held_copy_hides_a_second_match :
    let s := paged [page 7#3 0#3 true, page 3#3 0#3 true] (plain 0x2000#32)
    let t := { s.tlb with history := { s.tlb.history with dtlb := ⟨[⟨0, page 7#3 0#3 true⟩], []⟩ } }
    lookupIn t 0x2000#32 = .multi ∧ olderLookups .data t 0x2000#32 = [.hit 0 (page 7#3 0#3 true)] ∧
    olderLookups .fetch t 0x2000#32 = [] := by decide

/-- The same with a copy of the present page on both sides. -/
def unchanged : State :=
  { changed with tlb := { changed.tlb with history := { changed.tlb.history with itlb := changed.tlb.history.dtlb } } }

/-- A store of 3 to TLB_CONTROL, and a `syncins` with what the micro-TLBs hold then. -/
theorem test_witness_TlbFlush :
    changed.psw.getLsbD 0 = false ∧ ¬DataBreak changed (changed.imm 0#9 + changed.r 2#6) ∧
    (changed.imm 0#9 + changed.r 2#6).toNat = 0xFFFFFF50 ∧ changed.r 3#6 = 3#32 ∧
    (changed.tlb.flush true true).history.itlb.copies = [] ∧ unchanged.psw.getLsbD 0 = false ∧
    CopiesCurrent unchanged.tlb unchanged.tlb.history.itlb.copies ∧
    CopiesCurrent unchanged.tlb unchanged.tlb.history.dtlb.copies := by
  refine ⟨?_, not_dataBreak ?_, ?_, ?_, ?_, ?_, ?_, ?_⟩
  iterate 6 decide
  all_goals
    intro x hx
    rw [List.mem_singleton.1 hx]
    exact ⟨0, rfl, by decide, fun a h => only_of_sizes h (by decide)⟩

/-- A taken branch in a committed bundle. -/
theorem test_witness_TakenBranch : changesPc (.br 0#3 1#23) = true ∧
    takenBranch ((plain 0#32).writeB 0#3 true) (.br 0#3 1#23) = true ∧
    .br 0#3 1#23 ∈ ([.br 0#3 1#23, .prginspg 2#6 0#9] : List Instr) ∧
    .prginspg 2#6 0#9 ∈ ([.br 0#3 1#23, .prginspg 2#6 0#9] : List Instr) := by decide

/-! ### Bundles, exceptions, steps -/

/-- With these words at the PC. -/
def running (ws : List Word) (s : State) : State := { s with mem := storeWords s.cfg.bigEndian s.mem s.pc ws }

/-- A bundle of two syllables, one of four without a stop bit, and a bus error on the second syllable. -/
theorem test_witness_BundlesAreFetched :
    ((fetchBundle (running [0x08007143#32, 0x88007143#32] (plain 0#32))).words.length = 2 ∧
      (fetchBundle (running [0x08007143#32, 0x88007143#32] (plain 0#32))).error = none) ∧
    (fetchBundle (plain 0#32)).words.length = 4 ∧
    ((fetchBundle { plain 0#32 with
      cfg := { Cfg.initial with busErrors := [⟨0x1004#32, 0x1007#32, true, false⟩] } }).error =
        some (.plain .stbusIcError)) ∧
    ((plain 0#32).psw.getLsbD 2 = false ∧ (plain 0#32).stale = [] ∧ ReadableMemory (plain 0#32) 0xFFFFFFFC#32) := by
  refine ⟨?_, ?_, ?_, ?_, ?_, ?_⟩ <;> first | decide | (unfold ReadableMemory; decide)

/-- A reserved word, alone and beside `sbrk`. -/
theorem test_witness_IllegalBundles : (∀ is, ¬Legal 0x1000#32 [0xC0000000#32] is) ∧
    (∀ is, ¬Legal 0x1000#32 [0x40000000#32, 0x9FA00001#32] is) ∧
    decodeSyllable 0x9FA00001#32 = .ok (.sbrk 1#21) := by
  refine ⟨?_, ?_, rfl⟩ <;>
  · rintro (_ | ⟨i, is⟩) ⟨h, -⟩
    · cases h
    · have h' := (List.cons.inj h).1
      cases h'

/-- An extended multiply with its extension on its left, whose operations raise nothing. -/
theorem test_witness_Legal : Legal 0x1000#32 [encode (.immr 5#23), encode (.mullI 1#6 2#6 3#9) ||| 0x80000000#32]
      [.immr 5#23, .mullI 1#6 2#6 3#9] ∧
    (∀ o ∈ operations 0x1000#32 [.immr 5#23, .mullI 1#6 2#6 3#9],
      ∃ u, runOp (State.withNextPc { plain 0#32 with pc := 0x1000#32 } 2) o = .next u ∧ (u.signal == .done) = true) := by
  refine ⟨⟨by rfl, ⟨_, rfl, by decide⟩, by decide, ?_, ?_, ?_, by decide⟩, ?_⟩
  · rintro (_ | _ | k) i h <;> cases h
    · exact ⟨by decide, by decide, by decide, fun h => absurd h (by decide), fun _ => ⟨_, rfl, rfl⟩,
        fun _ _ h => by cases h⟩
    · exact ⟨by decide, by decide, by decide, fun h => absurd h (by decide), fun h => absurd h (by decide),
        fun _ _ _ _ h => by cases h⟩
  · rintro (_ | _ | j) (_ | _ | k) x y hx hy <;> cases hx <;> cases hy <;> decide
  · rintro (_ | _ | j) (_ | _ | k) x y hx hy <;> cases hx <;> cases hy <;>
      first | (exact fun _ => rfl) | (unfold SameDestination; decide)
  · intro o ho
    rw [show operations 0x1000#32 [.immr 5#23, .mullI 1#6 2#6 3#9] = [(.mullI 1#6 2#6 3#9, some (.immr 5#23))] by decide,
      List.mem_singleton] at ho
    subst ho
    exact next_of_answers (by decide)

/-- A taken branch, a store and an addition in one bundle commit together: the bundle of a branch to itself. -/
theorem test_mixed_bundle_commits_together :
    answers (evalWords { (plain 0x2000#32).writeB 0#3 true with pc := 0x1000#32 }
      [encode (.br 0#3 0x7FFFFF#23), encode (.stw 2#6 2#6 0#9), encode (.addI 1#6 2#6 3#9) ||| 0x80000000#32])
      (fun e => e.ending.isCommitted && e.state.nextPc == 0xFFC#32 && e.state.r 1#6 == 0x2003#32 &&
        memByte e.state.mem 0x2001 == 0x20#8) = true := by decide

theorem atRest_reset : State.reset.AtRest := ⟨by decide, by decide, by decide, by decide⟩

theorem test_witness_AtBoundary : AtBoundary (running [0x9FC00005#32] State.reset) :=
  ⟨⟨by decide, by decide, by decide, by decide⟩, by decide, by decide⟩

theorem test_witness_TrapsDiscardTheBundle :
    ∃ x u, evalBundle [] (running [0x9FC00005#32] State.reset) = .next ⟨.trapped x, u⟩ := by
  have h : ∃ e, evalBundle [] (running [0x9FC00005#32] State.reset) = .next e ∧
      (e.ending == .trapped .syscall) = true := next_of_answers (by decide)
  obtain ⟨⟨e, u⟩, he, hx⟩ := h
  have h' : e = .trapped .syscall := eq_of_beq hx
  exact ⟨.syscall, u, by rw [he, h']⟩

/-- An interrupt and a bus error due, as seen from a bundle boundary. -/
def disturbed : State :=
  { State.reset with psw := 2#32, busErrorPending := true, intc := { State.reset.intc with irqMaster := true } }

theorem test_witness_BoundaryRaises : BoundaryRaises disturbed .externInt ∧ BoundaryRaises disturbed .stbusDcError ∧
    AtBoundary disturbed :=
  ⟨.inr (.inl ⟨rfl, by decide, by decide⟩), .inl ⟨rfl, by decide⟩,
    ⟨⟨by decide, by decide, by decide, by decide⟩, by decide, by decide⟩⟩

theorem test_witness_OperationRaises : (¬∃ x, BoundaryRaises (running [0x9FC00005#32] State.reset) x) ∧
    OperationRaises (running [0x9FC00005#32] State.reset) .syscall := by
  refine ⟨?_, [.syscall 5#21], (.syscall 5#21, none), _, by decide, by decide, eq_after (by decide), by decide⟩
  rintro ⟨x, ⟨-, h⟩ | ⟨-, h, -⟩ | ⟨-, h⟩ | ⟨r, h, -⟩⟩
  · exact absurd h (by decide)
  · exact absurd h (by decide)
  · exact absurd h (by decide)
  · rw [show (fetchBundle (running [0x9FC00005#32] State.reset)).error = none by decide] at h
    cases h

/-- Requested by the host, and by the trigger input of an idle core. -/
theorem test_witness_DebugInterrupt :
    { State.reset with dsu := { State.reset.dsu with irqPending := true } }.AtRest ∧
    DebugRequested { State.reset with dsu := { State.reset.dsu with irqPending := true } } ∧
    (triggered { State.reset with coreIdle := true }).AtRest ∧ (triggered { State.reset with coreIdle := true }).waiting = none ∧
    DebugRequested (triggered { State.reset with coreIdle := true }) ∧ State.reset.psw.getLsbD 12 = false :=
  ⟨⟨by decide, by decide, by decide, by decide⟩, .inl rfl, ⟨by decide, by decide, by decide, by decide⟩, by decide,
    .inr ⟨rfl, rfl⟩, by decide⟩

/-- A bus error, and without it an interrupt, at a boundary. -/
theorem test_witness_BusErrorsAndInterrupts : disturbed.AtRest ∧ NoDebugDue disturbed ∧ disturbed.waiting = none ∧
    (fetchBundle (noteAccesses { sampleTrigger disturbed with coreIdle := false })).error = none ∧
    disturbed.busErrorPending = true ∧ { disturbed with busErrorPending := false }.irq = true ∧
    { disturbed with busErrorPending := false }.psw.getLsbD 1 = true :=
  ⟨⟨by decide, by decide, by decide, by decide⟩, by unfold NoDebugDue DebugRequested; decide, by decide⟩

/-- `add $r5 = $r3, 7`, then `syscall`, then a load of an empty SDI port. -/
theorem test_witness_StepRunsTheDecodedInstruction :
    Undisturbed (running [0x88007143#32] State.reset) ∧
    fetchSyllable (noteAccesses (sampleTrigger (running [0x88007143#32] State.reset))) 0x1000#32 = .ok 0x88007143#32 ∧
    decodeSyllable 0x88007143#32 = .ok (.addI 5#6 3#6 7#9) ∧ Instr.wellFormed (.addI 5#6 3#6 7#9) = true ∧
    isExtension (.addI 5#6 3#6 7#9) = false ∧
    (∃ t, exec (.addI 5#6 3#6 7#9) { running [0x88007143#32] State.reset with nextPc := 0x1004#32 } = .next t ∧
      (t.signal == .done) = true) ∧
    (∃ t, exec (.syscall 5#21) { running [0x9FC00005#32] State.reset with nextPc := 0x1004#32 } = .next t ∧
      (t.signal == .raised .syscall) = true) ∧
    (∃ t, exec (.ldw 1#6 2#6 0#9) (running [0xA0000042#32] (plain 0xFFFFE000#32)) = .next t ∧
      (t.signal == .stalled) = true) :=
  ⟨⟨⟨⟨by decide, by decide, by decide, by decide⟩, by decide, by decide⟩, by unfold NoDebugDue DebugRequested; decide,
    by decide, by decide, by decide⟩, by rfl, by rfl, by decide, by decide, next_of_answers (by decide), next_of_answers (by decide),
    next_of_answers (by decide)⟩

theorem test_witness_ResetMeetsTheInvariant : Cfg.initial.resetPc &&& 3#32 = 0#32 := by decide

/-- The machine after reset with a program; the step commits the bundle. -/
theorem test_witness_EveryStepKeepsTheInvariant : (running [0x88007143#32] State.reset).Inv ∧
    ∃ t, step (running [0x88007143#32] State.reset) = .next t ∧ (t.pc == 0x1004#32) = true :=
  ⟨⟨by unfold wordAligned; decide, by decide, by decide, by decide, by decide, by decide,
    ⟨by decide, by decide, by decide, by decide⟩⟩, next_of_answers (by decide)⟩

/-- In user mode: an addition stays there, `syscall` leaves; and a debug interrupt enters debug mode. -/
theorem test_witness_UserMode : (asUser (running [0x88007143#32] State.reset)).AtRest ∧
    (∃ t, coreStep (asUser (running [0x88007143#32] State.reset)) = .next t ∧ t.psw.getLsbD 0 = true) ∧
    (∃ t, coreStep (asUser (running [0x9FC00005#32] State.reset)) = .next t ∧ (!t.psw.getLsbD 0) = true) ∧
    (∃ t, coreStep { State.reset with dsu := { State.reset.dsu with irqPending := true } } = .next t ∧
      t.psw.getLsbD 12 = true) :=
  ⟨⟨by decide, by decide, by decide, by decide⟩, next_of_answers (by decide), next_of_answers (by decide),
    next_of_answers (by decide)⟩

theorem test_witness_EncodeOfDecode : decodeSyllable 0x9FE00000#32 = .ok .breakOp := by rfl

end Sys2Proof.Tests
end

section
/-! PROOF. What one operation can do: a case for each group of operations, in terms of the shared operations, and from it
what every operation leaves alone. -/

namespace Sys2Proof.Machine

open Sys2Proof.Rules

/-! ## The effect of an operation -/

/-- `t` is `s` with the given destinations written, and nothing else (10_state.md R37, R41). -/
inductive WritesDests (s : State) : Option GReg → Option BReg → State → Prop where
  | general (d : GReg) (v : Word) : WritesDests s (some d) none (s.writeR d v)
  | branch (c : BReg) (x : Bool) : WritesDests s none (some c) (s.writeB c x)
  | both (d : GReg) (v : Word) (c : BReg) (x : Bool) : WritesDests s (some d) (some c) ((s.writeR d v).writeB c x)

/-- The operations that have no effect but on registers write exactly their destinations. -/
theorem exec_registerOnly {i : Instr} (h : RegisterOnly i) (s : State) :
    ∃ t, exec i s = .next t ∧ WritesDests s (destG i) (destB i) t := by
  cases i
  case addcg | divs => exact ⟨_, rfl, .both _ _ _ _⟩
  case cmpeqBR | cmpeqBI | cmpneBR | cmpneBI | cmpgeBR | cmpgeBI | cmpgeuBR | cmpgeuBI | cmpgtBR | cmpgtBI |
    cmpgtuBR | cmpgtuBI | cmpleBR | cmpleBI | cmpleuBR | cmpleuBI | cmpltBR | cmpltBI | cmpltuBR | cmpltuBI | andlBR
    | andlBI | nandlBR | nandlBI | orlBR | orlBI | norlBR | norlBI =>
    exact ⟨_, rfl, .branch _ _⟩
  case imml | immr | prgins | sbrk | syscall | breakOp | ldw | ldwD | ldh | ldhD | ldhu | ldhuD | ldb | ldbD | ldbu
    | ldbuD | stw | sth | stb | pft | prgadd | prgset | sync | prginspg | pswset | pswclr | callImm | callLink |
    gotoImm | gotoLink | rfi | br | brf =>
    exact absurd h (by simp [RegisterOnly, kindOf])
  all_goals exact ⟨_, rfl, .general _ _⟩

/-- Every way an operation can change the state, by the group the operation belongs to. -/
inductive Effect (s : State) : Instr → State → Prop where
  | registers {i : Instr} {t : State} (only : RegisterOnly i) (writes : WritesDests s (destG i) (destB i) t) : Effect s i t
  | trap {i : Instr} (r : Raise) : Effect s i (trapEntry r s)
  | extension {i : Instr} (x : Imm23) (ext : i = .imml x ∨ i = .immr x) : Effect s i { s with ext := some x }
  | load {i : Instr} {t : State} {w : Width} {f : Word → Word} {d a : GReg} {k : Imm9} (unit : kindOf i = .memory)
    (dest : destG i = some d) (result : loadOp w f d a k s = .next t) : Effect s i t
  | dismissible {i : Instr} {t : State} {w : Width} {f : Word → Word} {d a : GReg} {k : Imm9}
    (unit : kindOf i = .memory) (dest : destG i = some d) (result : disLoadOp w f d a k s = .next t) : Effect s i t
  | store {i : Instr} {t : State} {w : Width} {b a : GReg} {k : Imm9} (unit : kindOf i = .memory)
    (dest : destG i = none) (result : storeOp w b a k s = .next t) : Effect s i t
  | caches {i : Instr} {u : Tlb} (xs : List StaleWord) (e : Bool) (unit : kindOf i = .memory ∨ i = .prgins)
    (dest : destG i = none) (settled : u = s.tlb ∨ u = s.tlb.settle) :
    Effect s i { s with stale := xs, tlb := u, busErrorPending := e }
  | psw {i : Instr} (v : Word) (xs : List StaleWord) (unit : kindOf i = .psw) (dest : destG i = none) :
    Effect s i { s with psw := pswWrite s.psw v, stale := xs, tlb := s.tlb.settle }
  | rfi : Effect s .rfi (returnFromTrap s)
  | fallThrough {i : Instr} (transfer : kindOf i = .transfer) (dest : destG i = none) : Effect s i s
  | jump {i : Instr} {p : Word} (transfer : kindOf i = .transfer) (dest : destG i = none)
    (target : (∃ b, p = branchTarget s.pc b) ∨ p = linkTarget s) : Effect s i (s.jump p)
  | call {i : Instr} {p : Word} (transfer : kindOf i = .transfer) (dest : destG i = some 63#6)
    (target : (∃ b, p = branchTarget s.pc b) ∨ p = linkTarget s) : Effect s i ((s.writeR 63#6 s.nextPc).jump p)
  | idle (b : Imm23) (quiet : outputBusy s = false) (stopped : s.pm.enb = false) : Effect s (.gotoImm b) (enterIdle s)

/-- A privileged operation raises, or has the effect it has in supervisor mode. -/
theorem effect_of_privileged {i : Instr} {s t u : State} (h : privileged s (.next u) = .next t) (hu : Effect s i u) :
    Effect s i t := by
  obtain ⟨-, rfl⟩ | ⟨-, h⟩ := privileged_cases h
  · exact .trap _
  · exact next_inj h ▸ hu

/-- What an operation can do when it answers a next state. -/
theorem exec_effect {i : Instr} {s t : State} (h : exec i s = .next t) : Effect s i t := by
  by_cases hr : RegisterOnly i
  · obtain ⟨u, hu, hw⟩ := exec_registerOnly hr s
    obtain rfl : u = t := next_inj (hu.symm.trans h)
    exact .registers hr hw
  cases i
  case imml => exact next_inj h ▸ .extension _ (.inl rfl)
  case immr => exact next_inj h ▸ .extension _ (.inr rfl)
  case sbrk | syscall | breakOp => exact raised_eq h ▸ .trap _
  case ldw | ldh | ldhu | ldb | ldbu => exact .load rfl rfl h
  case ldwD | ldhD | ldhuD | ldbD | ldbuD => exact .dismissible rfl rfl h
  case stw | sth | stb => exact .store rfl rfl h
  case prgset | sync => exact next_inj h ▸ .caches _ _ (.inl rfl) rfl (.inl rfl)
  case prgins => exact effect_of_privileged h (.caches _ _ (.inr rfl) rfl (.inr rfl))
  case prginspg => exact effect_of_privileged h (.caches _ _ (.inl rfl) rfl (.inr rfl))
  case pft a k =>
    obtain rfl := next_inj h
    obtain e | ⟨-, e⟩ := prefetch_cases (s.ea a k) s <;> rw [e] <;> exact .caches _ _ (.inl rfl) rfl (.inl rfl)
  case prgadd a k =>
    simp only [exec, execPrgadd] at h
    split at h
    · exact next_inj h ▸ .caches s.stale s.busErrorPending (.inl rfl) rfl (.inl rfl)
    · split at h
      · exact raised_eq h ▸ .trap _
      · obtain rfl := next_inj h
        unfold purgeAddress
        split <;> exact .caches _ _ (.inl rfl) rfl (.inl rfl)
  case pswset b =>
    refine effect_of_privileged h ?_
    unfold syncinsEffect
    split <;> exact .psw _ _ rfl rfl
  case pswclr => exact effect_of_privileged h (.psw _ _ rfl rfl)
  case rfi => exact effect_of_privileged h .rfi
  case callImm => exact next_inj h ▸ .call rfl rfl (.inl ⟨_, rfl⟩)
  case callLink => exact next_inj h ▸ .call rfl rfl (.inr rfl)
  case gotoLink => exact next_inj h ▸ .jump rfl rfl (.inr rfl)
  case gotoImm =>
    simp only [exec, execGotoImm] at h
    split at h
    · rename_i hi
      simp only [Bool.and_eq_true, Bool.not_eq_true'] at hi
      exact next_inj h ▸ .idle _ hi.2 hi.1.2
    · exact next_inj h ▸ .jump rfl rfl (.inl ⟨_, rfl⟩)
  case br =>
    obtain rfl := next_inj h
    split
    · exact .jump rfl rfl (.inl ⟨_, rfl⟩)
    · exact .fallThrough rfl rfl
  case brf =>
    obtain rfl := next_inj h
    split
    · exact .fallThrough rfl rfl
    · exact .jump rfl rfl (.inl ⟨_, rfl⟩)
  all_goals exact absurd (by simp [RegisterOnly, kindOf]) hr

/-! ## What the shared operations leave alone -/

theorem r_eq_of_gpr {s t : State} (h : t.gpr = s.gpr) (r : GReg) : t.r r = s.r r := by unfold State.r; simp only [h]

theorem b_eq_of_br {s t : State} (h : t.br = s.br) (c : BReg) : t.b c = s.b c := by unfold State.b; simp only [h]

/-- A store to the interrupt controller block changes the interrupt controller and the timers alone. -/
theorem intcWrite_changes (s : State) (off : Nat) (v : Word) :
    ∃ x y, intcWrite s off v = { s with intc := x, timers := y } := by
  unfold intcWrite
  split <;> exact ⟨_, _, rfl⟩

/-- A write of a DSU register changes the DSU alone. -/
theorem dsrWrite_changes (s : State) (n : Fin 32) (v : Word) : ∃ x, dsrWrite s n v = { s with dsu := x } := by
  unfold dsrWrite
  split <;> exact ⟨_, rfl⟩

theorem dsuWrite_changes (s : State) (off : Nat) (v : Word) : ∃ x, dsuWrite s off v = { s with dsu := x } := by
  unfold dsuWrite
  split
  · split
    · exact dsrWrite_changes s _ v
    · exact ⟨_, rfl⟩
  · exact ⟨_, rfl⟩

/-- Records of stored words are all that an access can move on. -/
theorem touchLine_changes (f : StaleWord → Word → StaleWord) (cached : Bool) (pa : Word) (s : State) :
    ∃ xs, touchLine f cached pa s = { s with stale := xs } := by
  obtain ⟨-, -, e⟩ | ⟨-, e⟩ := touchLine_cases f cached pa s <;> exact ⟨_, e⟩

theorem externalWrite_changes (s : State) (w : Width) (cached : Bool) (pa v : Word) :
    ∃ m xs, externalWrite s w cached pa v = { s with mem := m, stale := xs } ∧
      (Memory.wf s.mem = true → Memory.wf m = true) := by
  obtain ⟨-, e⟩ | ⟨-, e⟩ := externalWrite_cases s w cached pa v
  · exact ⟨_, _, e, id⟩
  · exact ⟨_, _, e, fun h => memStore_wf h _ _ _ _⟩

/-- A data write of the bus changes memory, which stays canonical, the records of stored words, the pending bus error and
the registers of the peripheral block, nothing else. -/
theorem busWrite_changes (s : State) (w : Width) (cached : Bool) (pa v : Word) :
    ∃ m xs e x y z, busWrite s w cached pa v =
        { s with mem := m, stale := xs, busErrorPending := e, intc := x, timers := y, dsu := z } ∧
      (Memory.wf s.mem = true → Memory.wf m = true) := by
  obtain ⟨off, -, -, e⟩ | ⟨off, -, -, e⟩ | ⟨-, -, -, e⟩ | ⟨-, -, e⟩ | ⟨-, t, rfl, e⟩ := busWrite_cases s w cached pa v
  · obtain ⟨x, y, e'⟩ := intcWrite_changes s off v
    exact ⟨_, _, _, _, _, _, e.trans e', id⟩
  · obtain ⟨x, e'⟩ := dsuWrite_changes s off v
    exact ⟨_, _, _, _, _, _, e.trans e', id⟩
  · exact ⟨_, _, _, _, _, _, e, id⟩
  · exact ⟨_, _, _, _, _, _, e, id⟩
  · obtain ⟨xs, et⟩ := touchLine_changes StaleWord.purgeLine cached pa s
    rw [et] at e
    obtain ⟨m, ys, ew, hm⟩ := externalWrite_changes { s with stale := xs } w cached pa v
    rw [ew] at e
    obtain ⟨-, e⟩ | ⟨-, e | e⟩ := e
    · exact ⟨_, _, _, _, _, _, e, hm⟩
    · exact ⟨_, _, _, _, _, _, e, id⟩
    · exact ⟨_, _, _, _, _, _, e, hm⟩

section
variable (s : State) (r : CReg) (v : Word)

@[simp] theorem cregUpdate_cfg : (cregUpdate s r v).cfg = s.cfg := by unfold cregUpdate; split <;> (try split) <;> rfl
@[simp] theorem cregUpdate_pc : (cregUpdate s r v).pc = s.pc := by unfold cregUpdate; split <;> (try split) <;> rfl
@[simp] theorem cregUpdate_nextPc : (cregUpdate s r v).nextPc = s.nextPc := by
  unfold cregUpdate; split <;> (try split) <;> rfl
@[simp] theorem cregUpdate_gpr : (cregUpdate s r v).gpr = s.gpr := by unfold cregUpdate; split <;> (try split) <;> rfl
@[simp] theorem cregUpdate_br : (cregUpdate s r v).br = s.br := by unfold cregUpdate; split <;> (try split) <;> rfl
@[simp] theorem cregUpdate_psw : (cregUpdate s r v).psw = s.psw := by unfold cregUpdate; split <;> (try split) <;> rfl
@[simp] theorem cregUpdate_coreIdle : (cregUpdate s r v).coreIdle = s.coreIdle := by
  unfold cregUpdate; split <;> (try split) <;> rfl
@[simp] theorem cregUpdate_mem : (cregUpdate s r v).mem = s.mem := by unfold cregUpdate; split <;> (try split) <;> rfl

end

/-- What loading a control register changes beside the destination is the LFSR alone. -/
theorem cregReadEffect_changes (s : State) (r : CReg) : ∃ x, cregReadEffect s r = { s with tlb := { s.tlb with lfsr := x } } := by
  unfold cregReadEffect
  split <;> exact ⟨_, rfl⟩

/-! ## Loads and stores -/

/-- How a load into `d` ends: it raises or waits, and writes no register; or it writes `d` and no other register, and does
not touch NEXT_PC. -/
inductive LoadEnd (s : State) (d : GReg) : State → Prop where
  | stopped {t : State} (signal : t.signal ≠ .done) (gpr : t.gpr = s.gpr) (br : t.br = s.br)
    (coreIdle : t.coreIdle = s.coreIdle) : LoadEnd s d t
  | loaded {u : State} (v : Word) (gpr : u.gpr = s.gpr) (br : u.br = s.br) (nextPc : u.nextPc = s.nextPc)
    (coreIdle : u.coreIdle = s.coreIdle) : LoadEnd s d (u.writeR d v)

theorem loadEnd_trapEntry (s : State) (d : GReg) (r : Raise) : LoadEnd s d (trapEntry r s) :=
  .stopped (by simp) rfl rfl rfl

theorem sdiStall_signal {i : Fin 4} {s t : State} (h : sdiStall i s = .next t) :
    t.signal ≠ .done ∧ t.gpr = s.gpr ∧ t.br = s.br ∧ t.coreIdle = s.coreIdle := by
  obtain ⟨-, rfl⟩ | ⟨-, -, rfl⟩ | ⟨-, -, rfl⟩ := sdiStall_cases h <;> exact ⟨by simp, rfl, rfl, rfl⟩

theorem cregLoad_end {a : Word} {d : GReg} {s t : State} (h : cregLoad a d s = .next t) : LoadEnd s d t := by
  obtain ⟨e, -, rfl⟩ | ⟨i, -, h⟩ | ⟨r, -, rfl⟩ := cregLoad_cases h
  · exact loadEnd_trapEntry s d e
  · obtain h | ⟨-, rfl⟩ | ⟨-, rfl⟩ | ⟨v, rest, -, -, -, rfl⟩ | ⟨-, -, rfl⟩ := sdiDataLoad_cases h
    · obtain ⟨signal, gpr, br, idle⟩ := sdiStall_signal h
      exact .stopped signal gpr br idle
    all_goals exact .loaded _ rfl rfl rfl rfl
  · obtain ⟨x, e⟩ := cregReadEffect_changes s r
    rw [e]
    exact .loaded _ rfl rfl rfl rfl

theorem dataRead_end (w : Width) (f : Word → Word) (a : Word) (d : GReg) (s : State) :
    LoadEnd s d (dataRead w f a d s) := by
  obtain ⟨t, ht, h⟩ := dataRead_cases w f a d s
  obtain ⟨xs, e⟩ := touchLine_changes StaleWord.readLine (cachedAccess s a) (translate s a) s
  rw [e] at ht
  subst ht
  obtain ⟨v, -, h⟩ | ⟨-, h⟩ := h <;> rw [h]
  · exact .loaded _ rfl rfl rfl rfl
  · exact .loaded (u := { s with stale := xs, busErrorPending := true }) _ rfl rfl rfl rfl

theorem disRead_end (w : Width) (f : Word → Word) (a : Word) (d : GReg) (s : State) :
    LoadEnd s d (disRead w f a d s) := by
  obtain ⟨-, h⟩ | ⟨-, -, h⟩ | ⟨-, -, h⟩ := disRead_cases w f a d s <;> rw [h]
  · exact .loaded _ rfl rfl rfl rfl
  · exact dataRead_end w f a d s
  · exact .loaded _ (by simp) (by simp) (by simp) (by simp)

theorem loadOp_end {w : Width} {f : Word → Word} {d a : GReg} {k : Imm9} {s t : State}
    (h : loadOp w f d a k s = .next t) : LoadEnd s d t := by
  obtain ⟨-, rfl⟩ | ⟨-, -, ⟨-, h⟩ | ⟨-, rfl⟩⟩ | ⟨-, -, ⟨e, -, rfl⟩ | ⟨-, rfl⟩⟩ := loadOp_cases h
  · exact loadEnd_trapEntry s d _
  · exact cregLoad_end h
  · exact loadEnd_trapEntry s d _
  · exact loadEnd_trapEntry s d _
  · exact dataRead_end w f _ d s

theorem disLoadOp_end {w : Width} {f : Word → Word} {d a : GReg} {k : Imm9} {s t : State}
    (h : disLoadOp w f d a k s = .next t) : LoadEnd s d t := by
  obtain ⟨-, rfl⟩ | ⟨-, -, rfl⟩ | ⟨-, -, ⟨e, -, rfl⟩ | ⟨-, rfl⟩⟩ := disLoadOp_cases h
  · exact loadEnd_trapEntry s d _
  · exact .loaded _ rfl rfl rfl rfl
  · exact loadEnd_trapEntry s d _
  · exact disRead_end w f _ d s

/-- A store writes no register, and leaves NEXT_PC unless it raises or waits. -/
theorem storeOp_frame {w : Width} {b a : GReg} {k : Imm9} {s t : State} (h : storeOp w b a k s = .next t) :
    t.gpr = s.gpr ∧ t.br = s.br ∧ t.coreIdle = s.coreIdle ∧ (t.signal = .done → t.nextPc = s.nextPc) := by
  obtain ⟨-, rfl⟩ | ⟨-, -, ⟨-, h⟩ | ⟨-, rfl⟩⟩ | ⟨-, -, ⟨e, -, rfl⟩ | ⟨-, rfl⟩⟩ := storeOp_cases h
  · exact ⟨rfl, rfl, rfl, by simp⟩
  · obtain ⟨e, -, rfl⟩ | ⟨i, -, h⟩ | ⟨r, -, rfl⟩ := cregStore_cases h
    · exact ⟨rfl, rfl, rfl, by simp⟩
    · obtain h | rfl | ⟨-, -, rfl⟩ := sdiDataStore_cases h
      · obtain ⟨signal, gpr, br, idle⟩ := sdiStall_signal h
        exact ⟨gpr, br, idle, fun e => absurd e signal⟩
      · exact ⟨rfl, rfl, rfl, fun _ => rfl⟩
      · exact ⟨rfl, rfl, rfl, fun _ => rfl⟩
    · exact ⟨by simp, by simp, by simp, by simp⟩
  · exact ⟨rfl, rfl, rfl, by simp⟩
  · exact ⟨rfl, rfl, rfl, by simp⟩
  · obtain ⟨m, xs, e, x, y, z, h, -⟩ := busWrite_changes s w (cachedAccess s (s.ea a k)) (translate s (s.ea a k)) (s.r b)
    rw [h]
    exact ⟨rfl, rfl, rfl, fun _ => rfl⟩

/-! ## The frame of every operation -/

/-- What operation `i`, which leads from `s` to `t`, leaves alone; that a completed write of R63 makes the speculative link
register true (70_reset_and_hazards.md R722); and when idle mode begins (61_platform_devices.md R690). -/
structure Frame (i : Instr) (s t : State) : Prop where
  general : ∀ r, destG i ≠ some r → t.r r = s.r r
  branch : ∀ c, destB i ≠ some c → t.b c = s.b c
  nextPc : t.signal = .done → changesPc i = false → t.nextPc = s.nextPc
  link : t.signal = .done → destG i = some 63#6 → t.slrValid = true
  idle : t.coreIdle = s.coreIdle ∨ (outputBusy s = false ∧ s.pm.enb = false ∧ t = enterIdle s)

/-- A register that is not the destination differs from it. -/
theorem ne_of_dest {α : Type} {o : Option α} {d r : α} (dest : o = some d) (other : o ≠ some r) : r ≠ d :=
  fun e => other (e ▸ dest)

theorem WritesDests.frame {s t : State} {i : Instr} (h : WritesDests s (destG i) (destB i) t) : Frame i s t := by
  generalize hg : destG i = g, hb : destB i = b at h
  cases h with
  | general d v =>
    exact
      { general := fun r hr => r_writeR_ne _ _ _ _ (ne_of_dest hg hr)
        branch := fun _ _ => rfl
        nextPc := fun _ _ => rfl
        link := fun _ h => by simp_all
        idle := .inl rfl }
  | branch c x =>
    exact
      { general := fun _ _ => rfl
        branch := fun _ hr => by rw [b_writeB, if_neg (ne_of_dest hb hr)]
        nextPc := fun _ _ => rfl
        link := fun _ h => by simp_all
        idle := .inl rfl }
  | both d v c x =>
    exact
      { general := fun r hr => r_writeR_ne _ _ _ _ (ne_of_dest hg hr)
        branch := fun _ hr => by rw [b_writeB, if_neg (ne_of_dest hb hr), b_writeR]
        nextPc := fun _ _ => rfl
        link := fun _ h => by simp_all
        idle := .inl rfl }

/-- An operation without a destination that leaves the registers alone. -/
theorem Frame.of_noDest {i : Instr} {s t : State} (dest : destG i = none) (gpr : t.gpr = s.gpr) (br : t.br = s.br)
    (coreIdle : t.coreIdle = s.coreIdle) (nextPc : t.signal = .done → changesPc i = false → t.nextPc = s.nextPc) :
    Frame i s t :=
  ⟨fun r _ => r_eq_of_gpr gpr r, fun c _ => b_eq_of_br br c, nextPc, fun _ h => by simp [dest] at h, .inl coreIdle⟩

/-- An operation that raised or waits. -/
theorem Frame.of_stopped {i : Instr} {s t : State} (signal : t.signal ≠ .done) (gpr : t.gpr = s.gpr) (br : t.br = s.br)
    (coreIdle : t.coreIdle = s.coreIdle) : Frame i s t :=
  ⟨fun r _ => r_eq_of_gpr gpr r, fun c _ => b_eq_of_br br c, fun h => absurd h signal, fun h => absurd h signal,
    .inl coreIdle⟩

theorem LoadEnd.frame {i : Instr} {s t : State} {d : GReg} (h : LoadEnd s d t) (dest : destG i = some d) : Frame i s t := by
  cases h with
  | stopped signal gpr br coreIdle => exact .of_stopped signal gpr br coreIdle
  | @loaded u v gpr br nextPc coreIdle =>
    exact
      { general := fun r hr => by rw [r_writeR_ne _ _ _ _ (ne_of_dest dest hr), r_eq_of_gpr gpr]
        branch := fun c _ => b_eq_of_br (t := u.writeR d v) br c
        nextPc := fun _ _ => nextPc
        link := fun _ h => by simp_all
        idle := .inl coreIdle }

/-- A control transfer may change the PC. -/
theorem changesPc_of_transfer {i : Instr} (h : kindOf i = .transfer) : changesPc i = true := by simp [changesPc, h]

theorem Effect.frame {i : Instr} {s t : State} (h : Effect s i t) : Frame i s t := by
  cases h with
  | registers _ writes => exact writes.frame
  | trap r => exact .of_stopped (by simp) rfl rfl rfl
  | extension x ext => exact .of_noDest (by obtain rfl | rfl := ext <;> rfl) rfl rfl rfl fun _ _ => rfl
  | load _ dest result => exact (loadOp_end result).frame dest
  | dismissible _ dest result => exact (disLoadOp_end result).frame dest
  | store _ dest result =>
    obtain ⟨gpr, br, coreIdle, nextPc⟩ := storeOp_frame result
    exact .of_noDest dest gpr br coreIdle fun hd _ => nextPc hd
  | caches _ _ _ dest => exact .of_noDest dest rfl rfl rfl fun _ _ => rfl
  | psw _ _ _ dest => exact .of_noDest dest rfl rfl rfl fun _ _ => rfl
  | rfi => exact .of_noDest rfl rfl rfl rfl fun _ h => by cases h
  | fallThrough _ dest => exact .of_noDest dest rfl rfl rfl fun _ _ => rfl
  | jump transfer dest => exact .of_noDest dest rfl rfl rfl fun _ h => by simp [changesPc_of_transfer transfer] at h
  | call transfer dest =>
    exact
      { general := fun r hr => r_writeR_ne _ _ _ _ (ne_of_dest dest hr)
        branch := fun _ _ => rfl
        nextPc := fun _ h => by simp [changesPc_of_transfer transfer] at h
        link := fun _ _ => by simp
        idle := .inl rfl }
  | idle b quiet stopped =>
    exact
      { general := fun _ _ => rfl
        branch := fun _ _ => rfl
        nextPc := fun _ h => by cases h
        link := fun _ h => by cases h
        idle := .inr ⟨quiet, stopped, rfl⟩ }

/-- What every operation leaves alone. -/
theorem exec_frame {i : Instr} {s t : State} (h : exec i s = .next t) : Frame i s t := (exec_effect h).frame

end Sys2Proof.Machine
end

section
/-! PROOF. What a bundle can do: the results of its operations, its commit, and the end of a step (10_state.md R91 to R96). -/

namespace Sys2Proof.Machine

/-! ## Evaluation -/

/-- An operation of a bundle runs with its extension in force and no other change of the state. -/
theorem runOp_of_operations {pc : Word} {is : List Instr} {o : Instr × Option Instr} (ho : o ∈ operations pc is)
    (s : State) : ∃ x, runOp s o = exec o.1 { s with ext := x } := by
  obtain ⟨x, -, rfl⟩ := List.mem_map.1 ho
  unfold runOp Syllable.extension
  dsimp only
  split
  · exact ⟨s.ext, rfl⟩
  · rename_i e he
    split at he <;> cases he <;> exact ⟨_, rfl⟩

theorem runOps_cons {s : State} {o : Instr × Option Instr} {ops : List (Instr × Option Instr)}
    {rs : List (Instr × State)} : runOps s (o :: ops) = .next rs ↔
      ∃ t ts, runOp s o = .next t ∧ runOps s ops = .next ts ∧ rs = (o.1, t) :: ts := by
  rw [runOps]
  constructor
  · intro h
    split at h
    · split at h
      · cases h
        exact ⟨_, _, ‹_›, ‹_›, rfl⟩
      all_goals cases h
    all_goals cases h
  · rintro ⟨t, ts, ht, hts, rfl⟩
    rw [ht, hts]

/-- The results are those of the operations, each evaluated on the same state (10_state.md R91). -/
theorem mem_runOps {s : State} {ops : List (Instr × Option Instr)} {rs : List (Instr × State)}
    (h : runOps s ops = .next rs) (x : Instr × State) : x ∈ rs ↔ ∃ o ∈ ops, o.1 = x.1 ∧ runOp s o = .next x.2 := by
  induction ops generalizing rs with
  | nil =>
    obtain rfl : [] = rs := by cases h; rfl
    simp
  | cons o ops ih =>
    obtain ⟨t, ts, ht, hts, rfl⟩ := runOps_cons.1 h
    rw [List.mem_cons, ih hts, List.exists_mem_cons_iff, ht, Prod.ext_iff]
    exact or_congr_left ⟨fun ⟨h1, h2⟩ => ⟨h1.symm, h2 ▸ rfl⟩, fun ⟨h1, h2⟩ => ⟨h1.symm, by cases h2; rfl⟩⟩

/-- The trap taken is the entry of one of the operations. -/
theorem pickTrap_mem {ts : List State} {q : Exc × State} (h : pickTrap ts = some q) : q.2 ∈ ts := by
  induction ts generalizing q with
  | nil => cases h
  | cons t ts ih =>
    unfold pickTrap at h
    split at h
    · exact List.mem_cons_of_mem _ (ih h)
    · cases h; exact List.mem_cons_self
    · split at h <;> cases h
      · exact List.mem_cons_of_mem _ (ih ‹_›)
      · exact List.mem_cons_self

/-! ## Commit -/

/-- Copying destinations changes registers, slr_valid and NEXT_PC alone. -/
theorem copyDests_changes (i : Instr) (t acc : State) :
    ∃ g b v, copyDests i t acc = { acc with
      gpr := g, br := b, slrValid := v, nextPc := if changesPc i then t.nextPc else acc.nextPc } := by
  unfold copyDests
  cases destG i <;> cases destB i <;> cases changesPc i <;> exact ⟨_, _, _, rfl⟩

/-- The commit starts from the state before the bundle or the result of one of its operations. -/
theorem commitBase_mem (s : State) (rs : List (Instr × State)) :
    commitBase s rs = s ∨ ∃ x ∈ rs, commitBase s rs = x.2 := by
  unfold commitBase
  split
  · exact .inr ⟨_, List.mem_singleton.2 rfl, rfl⟩
  · split
    · rename_i x hx
      exact .inr ⟨x, List.mem_of_find?_eq_some hx, rfl⟩
    · exact .inl rfl

/-- What can become of an evaluated bundle: one operation's trap, one operation's wait, or the commit of all. -/
theorem outcomeOf_cases (s : State) (ws : List Word) (is : List Instr) (rs : List (Instr × State)) :
    (∃ x ∈ rs, (outcomeOf s ws is rs).state = x.2) ∨ outcomeOf s ws is rs = ⟨.committed is, commitAll s rs⟩ := by
  unfold outcomeOf
  split
  · rename_i q hq
    obtain ⟨x, hx, e⟩ := List.mem_map.1 (pickTrap_mem hq)
    exact .inl ⟨x, hx, e.symm⟩
  · split
    · rename_i t ht
      obtain ⟨x, hx, e⟩ := List.mem_map.1 (List.mem_of_find?_eq_some ht)
      exact .inl ⟨x, hx, e.symm⟩
    · exact .inr rfl

/-- What the evaluation of fetched words can do: trap because they are no legal bundle, or run the operations. -/
theorem evalWords_cases {s : State} {ws : List Word} {e : BundleEnd} (h : evalWords s ws = .next e) :
    (∃ r, e = trapEnd r s) ∨
    ∃ is rs, runOps (s.withNextPc ws.length) (operations s.pc is) = .next rs ∧
      e = outcomeOf (s.withNextPc ws.length) ws is rs := by
  unfold evalWords at h
  split at h
  · cases h; exact .inl ⟨_, rfl⟩
  · split at h
    · cases h; exact .inr ⟨_, _, ‹_›, rfl⟩
    all_goals cases h

theorem evalBundle_cases {async : List Raise} {s : State} {e : BundleEnd} (h : evalBundle async s = .next e) :
    (∃ r, e = trapEnd r (dropFailedLine (fetchBundle s) s)) ∨ evalWords s (fetchBundle s).words = .next e := by
  unfold evalBundle at h
  split at h
  · cases h; exact .inl ⟨_, rfl⟩
  · exact .inr h

theorem boundaryStep_cases {s t : State} (h : boundaryStep s = .next t) :
    t = finish s ⟨.debug, debugEntry s⟩ ∨ ∃ e, evalBundle (asyncRaises s) s = .next e ∧ t = finish s e := by
  unfold boundaryStep at h
  split at h
  · exact .inl (next_inj h).symm
  · split at h
    · exact .inr ⟨_, ‹_›, (next_inj h).symm⟩
    all_goals cases h

theorem stallEnd_cases (s : State) (e : BundleEnd) :
    stallEnd s e = e ∨ stallEnd s e = ⟨.debug, debugEntry s⟩ ∨ ∃ r, stallEnd s e = trapEnd r s := by
  unfold stallEnd
  split
  · exact .inl rfl
  · split
    · exact .inr (.inl rfl)
    · split
      · exact .inr (.inr ⟨_, rfl⟩)
      · exact .inl rfl

theorem stalledStep_cases {ws : List Word} {s t : State} (h : stalledStep ws s = .next t) :
    ∃ e, evalWords s ws = .next e ∧ t = finish s (stallEnd s e) := by
  unfold stalledStep at h
  split at h
  · exact ⟨_, ‹_›, (next_inj h).symm⟩
  all_goals cases h

/-! ## The end of a step -/

/-- Counting changes the counters alone. -/
theorem countEvents_changes (s : State) (e : Ending) (t : State) :
    ∃ c, countEvents s e t = { t with pm := { t.pm with cnt := c } } := by
  unfold countEvents
  split <;> exact ⟨_, rfl⟩

theorem refetch_changes (s : State) (is : List Instr) (t : State) : ∃ xs, refetch s is t = { t with stale := xs } := by
  obtain ⟨-, e⟩ | ⟨-, e⟩ := refetch_cases s is t <;> exact ⟨_, e⟩

/-- A bundle's end changes what a too early `rfi` may use, the older translations and the records of stored words. -/
theorem settleBundle_changes (s : State) (e : Ending) (t : State) :
    ∃ h xs a b c d, settleBundle s e t = { t with
      tlb := { t.tlb with history := h }, stale := xs, savedPsw := a, savedPc := b, savedSavedPsw := c
      savedSavedPc := d } := by
  obtain ⟨is, -, ⟨-, e⟩ | ⟨-, e⟩⟩ | ⟨-, e⟩ | ⟨ws, -, e⟩ := settleBundle_cases s e t
  · obtain ⟨xs, er⟩ := refetch_changes s is (tickHazards t)
    exact ⟨_, _, _, _, _, _, e.trans er⟩
  all_goals exact ⟨_, _, _, _, _, _, e⟩

/-- After a step PC is NEXT_PC as the bundle's end left it. -/
theorem finish_changes (s : State) (e : BundleEnd) :
    ∃ h xs a b c d k, finish s e = { e.state with
      tlb := { e.state.tlb with history := h }, stale := xs, savedPsw := a, savedPc := b, savedSavedPsw := c
      savedSavedPc := d, pm := { e.state.pm with cnt := k }, pc := e.state.nextPc, ext := none, signal := .done
      cregStored := none, waiting := e.ending.waits, free := e.state.free + 1 } := by
  obtain ⟨k, hk⟩ := countEvents_changes s e.ending e.state
  obtain ⟨h, xs, a, b, c, d, hs⟩ := settleBundle_changes s e.ending (countEvents s e.ending e.state)
  refine ⟨h, xs, a, b, c, d, k, ?_⟩
  unfold finish
  dsimp only
  rw [hs, hk]

end Sys2Proof.Machine
end

section
/-! PROOF. The invariant of the machine: every operation keeps the part that holds inside a step, the end of a step restores
the rest, and no input of the environment breaks it. -/

namespace Sys2Proof.Machine

/-! ## Word alignment -/

theorem wordAligned_iff (a : Word) : wordAligned a ↔ a.toNat % 4 = 0 := by
  unfold wordAligned
  rw [← BitVec.toNat_inj, BitVec.toNat_and]
  exact (Nat.and_two_pow_sub_one_eq_mod a.toNat 2) ▸ Iff.rfl

theorem wordAligned_toPc (w : Word) : wordAligned (toPc w) := toPc_aligned w

/-- An address a number of words from an aligned one. -/
theorem wordAligned_add {a : Word} (h : wordAligned a) (n : Nat) : wordAligned (a + BitVec.ofNat 32 (4 * n)) := by
  rw [wordAligned_iff] at *
  simp only [BitVec.toNat_add, BitVec.toNat_ofNat]
  omega

theorem wordAligned_branchTarget {pc : Word} (h : wordAligned pc) (b : Imm23) : wordAligned (branchTarget pc b) := by
  rw [wordAligned_iff] at *
  simp only [branchTarget, reg32, zext32, BitVec.toNat_ofInt]
  omega

theorem wordAligned_linkTarget (s : State) : wordAligned (linkTarget s) := by
  unfold linkTarget
  split <;> exact wordAligned_toPc _

theorem wordAligned_target {s : State} {p : Word} (h : wordAligned s.pc)
    (target : (∃ b, p = branchTarget s.pc b) ∨ p = linkTarget s) : wordAligned p := by
  obtain ⟨b, rfl⟩ | rfl := target
  · exact wordAligned_branchTarget h b
  · exact wordAligned_linkTarget s

/-! ## What every operation keeps -/

/-- The part of the invariant that holds while a bundle is evaluated, idle mode apart. -/
structure State.Sound (s : State) : Prop where
  pcAligned : wordAligned s.pc
  nextPcAligned : wordAligned s.nextPc
  pswReserved : s.psw &&& ~~~pswWritable = 0#32
  memory : Memory.wf s.mem = true
  tlbIndex : s.tlb.index.toNat ≤ 63
  sdiDepth : ∀ i : Fin 4, s.sdi[i].chan.length ≤ s.cfg.sdi[i].depth

/-- It depends on a few fields alone. -/
theorem State.Sound.congr {s t : State} (h : s.Sound) (pc : t.pc = s.pc := by simp) (nextPc : t.nextPc = s.nextPc := by simp)
    (psw : t.psw = s.psw := by simp) (mem : t.mem = s.mem := by simp) (index : t.tlb.index = s.tlb.index := by simp)
    (sdi : t.sdi = s.sdi := by simp) (cfg : t.cfg = s.cfg := by simp) : t.Sound where
  pcAligned := pc ▸ h.pcAligned
  nextPcAligned := nextPc ▸ h.nextPcAligned
  pswReserved := psw ▸ h.pswReserved
  memory := mem ▸ h.memory
  tlbIndex := index ▸ h.tlbIndex
  sdiDepth := by rw [sdi, cfg]; exact h.sdiDepth

theorem State.Sound.withNextPc {s : State} (h : s.Sound) {p : Word} (hp : wordAligned p) : { s with nextPc := p }.Sound :=
  { h with nextPcAligned := hp }

theorem State.Sound.withPsw {s : State} (h : s.Sound) {p : Word} (hp : p &&& ~~~pswWritable = 0#32) :
    { s with psw := p }.Sound :=
  { h with pswReserved := hp }

theorem State.Sound.withMem {s : State} (h : s.Sound) {m : List Host.Cell} (hm : Memory.wf m = true) :
    { s with mem := m }.Sound :=
  { h with memory := hm }

/-- The channels' bounds after one port is replaced. -/
theorem sdiDepth_set {c : Cfg} {ps : Vector SdiPort 4} (h : ∀ j : Fin 4, ps[j].chan.length ≤ c.sdi[j].depth) (i : Fin 4)
    {p : SdiPort} (hp : p.chan.length ≤ c.sdi[i].depth) (j : Fin 4) : (ps.set i p)[j].chan.length ≤ c.sdi[j].depth := by
  by_cases e : i = j
  · subst e
    simpa using hp
  · have : (ps.set i p)[j] = ps[j] := Vector.getElem_set_ne _ _ (fun he => e (Fin.ext he))
    rw [this]
    exact h j

theorem State.Sound.withSdi {s : State} (h : s.Sound) (i : Fin 4) {p : SdiPort}
    (hp : p.chan.length ≤ s.cfg.sdi[i].depth) : { s with sdi := s.sdi.set i p }.Sound :=
  { h with sdiDepth := sdiDepth_set h.sdiDepth i hp }

theorem State.Sound.trapEntry {s : State} (h : s.Sound) (r : Raise) : (trapEntry r s).Sound :=
  ((h.withNextPc (wordAligned_toPc _)).withPsw (trapPsw_reserved h.pswReserved)).congr rfl rfl rfl rfl rfl rfl rfl

theorem State.Sound.debugEntry {s : State} (h : s.Sound) : (debugEntry s).Sound :=
  ((h.withNextPc (wordAligned_toPc _)).withPsw (debugPsw_reserved h.pswReserved)).congr rfl rfl rfl rfl rfl rfl rfl

theorem State.Sound.writeR {s : State} (h : s.Sound) (d : GReg) (v : Word) : (s.writeR d v).Sound := h.congr

theorem State.Sound.writeB {s : State} (h : s.Sound) (c : BReg) (x : Bool) : (s.writeB c x).Sound := h.congr

theorem State.Sound.sdiMoved {s : State} (h : s.Sound) (i : Fin 4) {xs : List Word}
    (hx : xs.length ≤ s.cfg.sdi[i].depth) : (sdiMoved i xs s).Sound := h.withSdi i hx

theorem State.Sound.sdiStall {s t : State} (h : s.Sound) {i : Fin 4} (ht : sdiStall i s = .next t) : t.Sound := by
  obtain ⟨-, rfl⟩ | ⟨-, -, rfl⟩ | ⟨-, -, rfl⟩ := sdiStall_cases ht
  · exact (h.withNextPc h.pcAligned).congr
  · exact h.trapEntry _
  · have counted := h.withSdi i (p := { s.sdi[i] with timeout := s.sdi[i].timeout - 1#32 }) (h.sdiDepth i)
    exact (counted.withNextPc h.pcAligned).congr rfl rfl rfl rfl rfl rfl rfl

theorem State.Sound.sdiDataLoad {s t : State} (h : s.Sound) {i : Fin 4} {d : GReg} (ht : sdiDataLoad i d s = .next t) :
    t.Sound := by
  have hi := h.sdiDepth i
  obtain ht | ⟨-, rfl⟩ | ⟨-, rfl⟩ | ⟨v, rest, -, -, hc, rfl⟩ | ⟨-, -, rfl⟩ := sdiDataLoad_cases ht
  · exact h.sdiStall ht
  · exact h.writeR d _
  · exact (h.sdiMoved i (by rw [List.length_tail]; omega)).writeR d _
  · exact (h.sdiMoved i (by rw [hc, List.length_cons] at hi; omega)).writeR d _
  · exact h.writeR d _

theorem State.Sound.sdiDataStore {s t : State} (h : s.Sound) {i : Fin 4} {v : Word} (ht : sdiDataStore i v s = .next t) :
    t.Sound := by
  obtain ht | rfl | ⟨-, hf, rfl⟩ := sdiDataStore_cases ht
  · exact h.sdiStall ht
  · exact h
  · exact h.sdiMoved i (by simpa using hf)

/-- A store to SDIi_CONTROL empties the channel or leaves it. -/
theorem length_chan_setControl (c : SdiCfg) (p : SdiPort) (v : Word) : (p.setControl c v).chan.length ≤ p.chan.length := by
  unfold SdiPort.setControl
  dsimp only
  split <;> simp

/-- A store to a control register: TLB_INDEX takes no value above 63 (21_translation.md R236), and no channel grows. -/
theorem State.Sound.cregUpdate {s : State} (h : s.Sound) (r : CReg) (v : Word) : (cregUpdate s r v).Sound := by
  cases r
  case tlbIndex =>
    simp only [Machine.cregUpdate]
    split
    · exact { h with tlbIndex := ‹_› }
    · exact h
  case sdiControl i => exact h.withSdi i ((length_chan_setControl _ _ _).trans (h.sdiDepth i))
  case sdiCount i | sdiTimeout i => exact h.withSdi i (h.sdiDepth i)
  all_goals exact h.congr (by simp) (by simp) (by simp) (by simp) (by simp [Machine.cregUpdate]) rfl (by simp)

theorem State.Sound.cregLoad {s t : State} (h : s.Sound) {a : Word} {d : GReg} (ht : cregLoad a d s = .next t) :
    t.Sound := by
  obtain ⟨e, -, rfl⟩ | ⟨i, -, ht⟩ | ⟨r, -, rfl⟩ := cregLoad_cases ht
  · exact h.trapEntry e
  · exact h.sdiDataLoad ht
  · obtain ⟨x, e⟩ := cregReadEffect_changes s r
    rw [e]
    exact h.congr

theorem State.Sound.cregStore {s t : State} (h : s.Sound) {a v : Word} (ht : cregStore a v s = .next t) : t.Sound := by
  obtain ⟨e, -, rfl⟩ | ⟨i, -, ht⟩ | ⟨r, -, rfl⟩ := cregStore_cases ht
  · exact h.trapEntry e
  · exact h.sdiDataStore ht
  · exact (h.cregUpdate r v).congr

theorem State.Sound.dataRead {s : State} (h : s.Sound) (w : Width) (f : Word → Word) (a : Word) (d : GReg) :
    (dataRead w f a d s).Sound := by
  obtain ⟨t, rfl, ⟨v, -, e⟩ | ⟨-, e⟩⟩ := dataRead_cases w f a d s <;> rw [e] <;> exact h.congr

theorem State.Sound.disRead {s : State} (h : s.Sound) (w : Width) (f : Word → Word) (a : Word) (d : GReg) :
    (disRead w f a d s).Sound := by
  obtain ⟨-, e⟩ | ⟨-, -, e⟩ | ⟨-, -, e⟩ := disRead_cases w f a d s <;> rw [e]
  · exact h.writeR d _
  · exact h.dataRead w f a d
  · exact h.congr

theorem State.Sound.loadOp {s t : State} (h : s.Sound) {w : Width} {f : Word → Word} {d a : GReg} {k : Imm9}
    (ht : loadOp w f d a k s = .next t) : t.Sound := by
  obtain ⟨-, rfl⟩ | ⟨-, -, ⟨-, ht⟩ | ⟨-, rfl⟩⟩ | ⟨-, -, ⟨e, -, rfl⟩ | ⟨-, rfl⟩⟩ := loadOp_cases ht
  · exact h.trapEntry _
  · exact h.cregLoad ht
  · exact h.trapEntry _
  · exact h.trapEntry _
  · exact h.dataRead w f _ d

theorem State.Sound.disLoadOp {s t : State} (h : s.Sound) {w : Width} {f : Word → Word} {d a : GReg} {k : Imm9}
    (ht : disLoadOp w f d a k s = .next t) : t.Sound := by
  obtain ⟨-, rfl⟩ | ⟨-, -, rfl⟩ | ⟨-, -, ⟨e, -, rfl⟩ | ⟨-, rfl⟩⟩ := disLoadOp_cases ht
  · exact h.trapEntry _
  · exact h.writeR d _
  · exact h.trapEntry _
  · exact h.disRead w f _ d

theorem State.Sound.storeOp {s t : State} (h : s.Sound) {w : Width} {b a : GReg} {k : Imm9}
    (ht : storeOp w b a k s = .next t) : t.Sound := by
  obtain ⟨-, rfl⟩ | ⟨-, -, ⟨-, ht⟩ | ⟨-, rfl⟩⟩ | ⟨-, -, ⟨e, -, rfl⟩ | ⟨-, rfl⟩⟩ := storeOp_cases ht
  · exact h.trapEntry _
  · exact h.cregStore ht
  · exact h.trapEntry _
  · exact h.trapEntry _
  · obtain ⟨m, xs, e, x, y, z, ht, hm⟩ :=
      busWrite_changes s w (cachedAccess s (s.ea a k)) (translate s (s.ea a k)) (s.r b)
    rw [ht]
    exact (h.withMem (hm h.memory)).congr rfl rfl rfl rfl rfl rfl rfl

theorem State.Sound.returnFromTrap {s : State} (h : s.Sound) : (returnFromTrap s).Sound :=
  ((h.withNextPc (wordAligned_toPc _)).withPsw (pswWrite_reserved _ _)).congr rfl rfl rfl rfl rfl rfl rfl

theorem WritesDests.sound {s t : State} (h : s.Sound) {g : Option GReg} {b : Option BReg} (hw : WritesDests s g b t) :
    t.Sound := by
  cases hw with
  | general d v => exact h.writeR d v
  | branch c x => exact h.writeB c x
  | both d v c x => exact (h.writeR d v).writeB c x

/-- Every operation keeps the sound part of the invariant. -/
theorem State.Sound.effect {s t : State} (h : s.Sound) {i : Instr} (he : Effect s i t) : t.Sound := by
  cases he with
  | registers _ writes => exact writes.sound h
  | trap r => exact h.trapEntry r
  | extension => exact h.congr
  | load _ _ result => exact h.loadOp result
  | dismissible _ _ result => exact h.disLoadOp result
  | store _ _ result => exact h.storeOp result
  | caches xs e _ _ settled => exact h.congr rfl rfl rfl rfl (by obtain rfl | rfl := settled <;> rfl) rfl rfl
  | psw v xs => exact (h.withPsw (pswWrite_reserved s.psw v)).congr
  | rfi => exact h.returnFromTrap
  | fallThrough => exact h
  | jump _ _ target => exact h.withNextPc (wordAligned_target h.pcAligned target)
  | call _ _ target => exact (h.writeR 63#6 s.nextPc).withNextPc (wordAligned_target h.pcAligned target)
  | idle => exact (h.withNextPc h.pcAligned).congr

/-! ## Idle mode -/

/-- The clause of the invariant on idle mode (61_platform_devices.md R690, R691). -/
def State.IdleOk (s : State) : Prop :=
  s.coreIdle = true → outputBusy s = false ∧ s.pm.enb = false ∧ s.pm.idle = true

theorem State.IdleOk.of_awake {s : State} (h : s.coreIdle = false) : s.IdleOk := fun hi => by simp [h] at hi

theorem outputBusy_eq_false (s : State) :
    outputBusy s = false ↔ ∀ i : Fin 4, s.cfg.sdi[i].isInput = false → s.sdi[i].chan = [] := by
  simp [outputBusy, Fin.forall_fin_succ]

/-- The part of the invariant that holds inside a step. -/
structure State.MidInv (s : State) : Prop where
  sound : s.Sound
  idle : s.IdleOk

/-- What an operation on an awake core leaves. -/
theorem midInv_of_exec {s t : State} {i : Instr} (h : s.Sound) (awake : s.coreIdle = false) (he : exec i s = .next t) :
    t.MidInv := by
  refine ⟨h.effect (exec_effect he), ?_⟩
  obtain e | ⟨quiet, stopped, rfl⟩ := (exec_frame he).idle
  · exact .of_awake (e.trans awake)
  · exact fun _ => ⟨quiet, stopped, rfl⟩

/-- It does not depend on registers. -/
theorem State.MidInv.withDests {s : State} (h : s.MidInv) {p : Word} (hp : wordAligned p) (g : Vector Word 64)
    (b : Vector Bool 8) (v : Bool) : { s with gpr := g, br := b, slrValid := v, nextPc := p }.MidInv :=
  ⟨(h.sound.withNextPc hp).congr, h.idle⟩

theorem State.MidInv.trapEntry {s : State} (h : s.MidInv) (r : Raise) : (trapEntry r s).MidInv :=
  ⟨h.sound.trapEntry r, h.idle⟩

theorem State.MidInv.debugEntry {s : State} (h : s.MidInv) : (debugEntry s).MidInv :=
  ⟨h.sound.debugEntry, h.idle⟩

theorem State.MidInv.copyDests {s t : State} (hs : s.MidInv) (ht : t.MidInv) (i : Instr) : (copyDests i t s).MidInv := by
  obtain ⟨g, b, v, e⟩ := copyDests_changes i t s
  rw [e]
  refine hs.withDests ?_ g b v
  split
  · exact ht.sound.nextPcAligned
  · exact hs.sound.nextPcAligned

theorem midInv_foldl_copyDests {rs : List (Instr × State)} (hr : ∀ x ∈ rs, x.2.MidInv) {s : State} (hs : s.MidInv) :
    (rs.foldl (fun acc x => copyDests x.1 x.2 acc) s).MidInv := by
  induction rs generalizing s with
  | nil => exact hs
  | cons x rs ih =>
    obtain ⟨hx, hr⟩ := List.forall_mem_cons.1 hr
    exact ih hr (hs.copyDests hx x.1)

theorem midInv_commitAll {s : State} (hs : s.MidInv) {rs : List (Instr × State)} (hr : ∀ x ∈ rs, x.2.MidInv) :
    (commitAll s rs).MidInv := by
  refine midInv_foldl_copyDests hr ?_
  obtain e | ⟨x, hx, e⟩ := commitBase_mem s rs <;> rw [e]
  · exact hs
  · exact hr x hx

/-- The result of every operation of a bundle. -/
theorem midInv_of_runOps {s : State} (h : s.Sound) (awake : s.coreIdle = false) {pc : Word} {is : List Instr}
    {rs : List (Instr × State)} (hr : runOps s (operations pc is) = .next rs) : ∀ x ∈ rs, x.2.MidInv := by
  intro x hx
  obtain ⟨o, ho, -, he⟩ := (mem_runOps hr x).1 hx
  obtain ⟨e, hx⟩ := runOp_of_operations ho s
  have extended : { s with ext := e }.Sound := h.congr
  exact midInv_of_exec extended awake (hx.symm.trans he)

theorem midInv_evalWords {s : State} (h : s.Sound) (awake : s.coreIdle = false) {ws : List Word} {e : BundleEnd}
    (he : evalWords s ws = .next e) : e.state.MidInv := by
  have hs : s.MidInv := ⟨h, .of_awake awake⟩
  obtain ⟨r, rfl⟩ | ⟨is, rs, hr, rfl⟩ := evalWords_cases he
  · exact hs.trapEntry r
  · have hn : (s.withNextPc ws.length).Sound := h.withNextPc (wordAligned_add h.pcAligned _)
    have results := midInv_of_runOps hn awake hr
    obtain ⟨x, hx, e⟩ | e := outcomeOf_cases (s.withNextPc ws.length) ws is rs <;> rw [e]
    · exact results x hx
    · exact midInv_commitAll ⟨hn, .of_awake awake⟩ results

/-- The end of a step restores the whole invariant. -/
theorem inv_finish (s : State) {e : BundleEnd} (h : e.state.MidInv) : (finish s e).Inv := by
  obtain ⟨x, xs, a, b, c, d, k, hf⟩ := finish_changes s e
  rw [hf]
  exact
    { pcAligned := h.sound.nextPcAligned
      pswReserved := h.sound.pswReserved
      memory := h.sound.memory
      tlbIndex := h.sound.tlbIndex
      sdiDepth := h.sound.sdiDepth
      idle := h.idle
      atRest := ⟨rfl, rfl, rfl, rfl⟩ }

theorem State.Inv.sound {s : State} (h : s.Inv) : s.Sound where
  pcAligned := h.pcAligned
  nextPcAligned := h.atRest.nextPc ▸ h.pcAligned
  pswReserved := h.pswReserved
  memory := h.memory
  tlbIndex := h.tlbIndex
  sdiDepth := h.sdiDepth

theorem inv_boundaryStep {s t : State} (h : s.Sound) (awake : s.coreIdle = false) (ht : boundaryStep s = .next t) : t.Inv := by
  have hs : s.MidInv := ⟨h, .of_awake awake⟩
  obtain rfl | ⟨e, he, rfl⟩ := boundaryStep_cases ht
  · exact inv_finish s hs.debugEntry
  · refine inv_finish s ?_
    obtain ⟨r, rfl⟩ | he := evalBundle_cases he
    · have : (dropFailedLine (fetchBundle s) s).MidInv := ⟨h.congr, .of_awake (by simpa using awake)⟩
      exact this.trapEntry r
    · exact midInv_evalWords h awake he

theorem inv_stalledStep {s t : State} (h : s.Sound) (awake : s.coreIdle = false) {ws : List Word}
    (ht : stalledStep ws s = .next t) : t.Inv := by
  have hs : s.MidInv := ⟨h, .of_awake awake⟩
  obtain ⟨e, he, rfl⟩ := stalledStep_cases ht
  refine inv_finish s ?_
  obtain e' | e' | ⟨r, e'⟩ := stallEnd_cases s e <;> rw [e']
  · exact midInv_evalWords h awake he
  · exact hs.debugEntry
  · exact hs.trapEntry r

theorem sound_noteAccesses {s : State} (h : s.Sound) : (noteAccesses s).Sound := by
  obtain ⟨-, e⟩ | ⟨-, x, e⟩ := noteAccesses_cases s <;> rw [e]
  · exact h
  · exact h.congr

theorem noteAccesses_coreIdle (s : State) : (noteAccesses s).coreIdle = s.coreIdle := by
  obtain ⟨-, e⟩ | ⟨-, x, e⟩ := noteAccesses_cases s <;> rw [e]

/-- The step of the core keeps the invariant. -/
theorem inv_coreStep {s t : State} (h : s.Inv) (ht : coreStep s = .next t) : t.Inv := by
  have begun : (noteAccesses { sampleTrigger s with coreIdle := false }).Sound :=
    sound_noteAccesses (h.sound.congr rfl rfl rfl rfl rfl rfl rfl)
  have awake := noteAccesses_coreIdle { sampleTrigger s with coreIdle := false }
  obtain ⟨-, -, rfl⟩ | ⟨ws, -, ht⟩ | ⟨-, ht⟩ := coreStep_cases ht
  · exact { h with atRest := { h.atRest with } }
  · exact inv_stalledStep begun awake ht
  · exact inv_boundaryStep begun awake ht

/-! ## The inputs of the environment -/

theorem State.Inv.withPlatform {s : State} (h : s.Inv) (x : Intc) (y : Timers) (z : Dsu) (es : List (List EnvEvent)) :
    { s with intc := x, timers := y, dsu := z, env := es }.Inv :=
  { h with atRest := { h.atRest with } }

theorem State.Inv.withPclk {s : State} (h : s.Inv) (w : Word) : { s with pm := { s.pm with pclk := w } }.Inv :=
  { h with atRest := { h.atRest with } }

theorem State.Inv.withMemory {s : State} (h : s.Inv) {m : List Host.Cell} (hm : Memory.wf m = true)
    (xs : List StaleWord) (e : Bool) : { s with mem := m, stale := xs, busErrorPending := e }.Inv :=
  { h with memory := hm, atRest := { h.atRest with } }

/-- A channel that stays within its depth, of a port that is an input or whose channel stays empty if it was. -/
theorem State.Inv.withSdi {s : State} (h : s.Inv) (i : Fin 4) {p : SdiPort} (depth : p.chan.length ≤ s.cfg.sdi[i].depth)
    (quiet : s.coreIdle = true → s.cfg.sdi[i].isInput = false → s.sdi[i].chan = [] → p.chan = []) : (s.setSdi i p).Inv := by
  refine { h with sdiDepth := sdiDepth_set h.sdiDepth i depth, idle := fun hi => ?_, atRest := { h.atRest with } }
  obtain ⟨busy, stopped, told⟩ := h.idle hi
  refine ⟨(outputBusy_eq_false _).2 fun j hj => ?_, stopped, told⟩
  have hc := (outputBusy_eq_false s).1 busy j hj
  by_cases e : i = j
  · subst e
    simpa [State.setSdi] using quiet hi hj hc
  · have : (s.sdi.set i p)[j] = s.sdi[j] := Vector.getElem_set_ne _ _ (fun he => e (Fin.ext he))
    exact this ▸ hc

theorem inv_sdiPush {s : State} (h : s.Inv) (i : Fin 4) (v : Word) : (sdiPush s i v).Inv := by
  unfold sdiPush
  dsimp only
  split
  · rename_i hc
    simp only [Bool.and_eq_true, Bool.not_eq_true', decide_eq_true_eq] at hc
    obtain ⟨⟨⟨input, awake⟩, -⟩, room⟩ := hc
    exact h.withSdi i (by simpa using room) fun hi => by simp [awake] at hi
  · exact h

theorem inv_sdiPop {s : State} (h : s.Inv) (i : Fin 4) : (sdiPop s i).Inv := by
  unfold sdiPop
  split
  · exact h
  · refine h.withSdi i ?_ fun _ _ he => ?_
    · have := h.sdiDepth i
      rw [List.length_tail]
      omega
    · rw [he, List.tail_nil]

theorem inv_setResetIn {s : State} (h : s.Inv) (i : Fin 4) (v : Bool) :
    (s.setSdi i (s.sdi[i].setResetIn s.cfg.sdi[i] v)).Inv := by
  unfold SdiPort.setResetIn
  refine h.withSdi i ?_ fun _ _ he => ?_ <;> dsimp only <;> split
  · exact Nat.zero_le _
  · exact h.sdiDepth i
  · rfl
  · exact he

theorem inv_coreClock {s : State} (h : s.Inv) : (coreClock s).Inv := by
  unfold coreClock
  split
  · exact h.withPclk _
  · exact h

theorem inv_lateWriteFails {s : State} (h : s.Inv) (k : Nat) : (lateWriteFails k s).Inv := by
  obtain e | ⟨x, -, -, e⟩ := lateWriteFails_cases k s <;> rw [e]
  · exact h.withMemory h.memory s.stale true
  · exact h.withMemory (undoStore_wf h.memory k x) _ true

/-- A poke of the host changes the DSU alone. -/
theorem hostPoke_changes (s : State) (n : Nat) (vs : List Word) : ∃ x, hostPoke s n vs = { s with dsu := x } := by
  induction vs generalizing s n with
  | nil => exact ⟨_, rfl⟩
  | cons v vs ih =>
    unfold hostPoke
    split
    · rename_i hn
      obtain ⟨x, e⟩ := dsrWrite_changes s ⟨n, hn⟩ v
      rw [e]
      exact ih { s with dsu := x } (n + 1)
    · exact ih s (n + 1)

/-- A message of the host changes the DSU alone. -/
theorem hostMessage_changes (m : HostMsg) (s : State) :
    (∃ x, taplinkMessage m s = { s with dsu := x }) ∧ ∃ x, jtagMessage m s = { s with dsu := x } := by
  cases m with
  | poke r vs =>
    refine ⟨?_, hostPoke_changes _ _ _⟩
    unfold taplinkMessage
    dsimp only
    split
    · exact ⟨_, rfl⟩
    · exact hostPoke_changes _ _ _
  | event => constructor <;> simp only [taplinkMessage, jtagMessage] <;> split <;> exact ⟨_, rfl⟩
  | nop | peek | eventAck | peeked => exact ⟨⟨_, rfl⟩, ⟨_, rfl⟩⟩

/-- What another initiator of the bus writes changes registers of the peripheral block alone. -/
theorem initiatorWrite_changes (s : State) (pa v : Word) :
    ∃ x y z, initiatorWrite s pa v = { s with intc := x, timers := y, dsu := z } := by
  unfold initiatorWrite
  split
  · obtain ⟨x, y, e⟩ := intcWrite_changes s ‹_› v
    exact ⟨_, _, _, e⟩
  · obtain ⟨x, e⟩ := dsuWrite_changes s ‹_› v
    exact ⟨_, _, _, e⟩
  all_goals exact ⟨_, _, _, rfl⟩

/-- No input of the environment breaks the invariant. -/
theorem inv_applyEvent {s : State} (h : s.Inv) (e : EnvEvent) : (applyEvent e s).Inv := by
  cases e with
  | busClock | lines | irqMaster | triggerIn => exact h.withPlatform _ _ _ _
  | coreClock => exact inv_coreClock h
  | sdiPush i v => exact inv_sdiPush h i v
  | sdiPop i => exact inv_sdiPop h i
  | sdiResetIn i v => exact inv_setResetIn h i v
  | host m =>
    obtain ⟨⟨x, ex⟩, y, ey⟩ := hostMessage_changes m s
    simp only [applyEvent, ex, ey]
    split <;> exact h.withPlatform _ _ _ _
  | linkSent =>
    simp only [applyEvent, linkSent]
    split
    · exact h.withPlatform _ _ _ _
    · exact h
  | writeFailed k => exact inv_lateWriteFails h k
  | busRead => exact h
  | busWrite pa v =>
    obtain ⟨x, y, z, e⟩ := initiatorWrite_changes s pa v
    simp only [applyEvent, e]
    exact h.withPlatform _ _ _ _

theorem inv_applyEvents {s : State} (h : s.Inv) (es : List EnvEvent) : (applyEvents es s).Inv := by
  unfold applyEvents
  induction es generalizing s with
  | nil => exact h
  | cons e es ih => exact ih (inv_applyEvent h e)

theorem inv_envTick {s : State} (h : s.Inv) : (envTick s).Inv :=
  inv_coreClock (inv_applyEvents (h.withPlatform s.intc s.timers s.dsu s.env.tail) _)

theorem step_cases {s t : State} (h : step s = .next t) : ∃ u, coreStep s = .next u ∧ t = envTick u := by
  unfold step runStep at h
  split at h
  · exact ⟨_, ‹_›, (next_inj h).symm⟩
  all_goals cases h

/-- Settles O55: the core's step keeps the invariant, and so does every input of the environment after it. -/
theorem everyStepKeepsTheInvariant : Obligations.EveryStepKeepsTheInvariant := by
  intro s t hs ht
  obtain ⟨u, hu, rfl⟩ := step_cases ht
  exact inv_envTick (inv_coreStep hs hu)

end Sys2Proof.Machine
end

section
/-! PROOF. Registers and control registers: what a write of a register changes, what a supervisor's load of a control register
gives and what a store to one changes (10_state.md R37, R41, R55 to R71). -/

namespace Sys2Proof.Machine

open Sys2Proof.Rules

/-! ## The register files -/

/-- Writing R0 changes nothing (10_state.md R37). -/
theorem writeR_zero (s : State) (v : Word) : s.writeR 0#6 v = s := by
  have : (s.slrValid || (0#6 : GReg) == 63#6) = s.slrValid := by simp
  unfold State.writeR setGpr
  rw [if_pos rfl, this]

/-- Settles O11, by the laws of `writeR` and `writeB`. -/
theorem registerFileReadsAndWrites : Obligations.RegisterFileReadsAndWrites := by
  intro s d r v t b x
  refine ⟨rfl, writeR_zero s v, r_writeR s d r v, rfl, ?_, b_writeB s t b x, rfl⟩
  by_cases h : d = 63#6 <;> simp [h]

/-! ## Addresses of control registers -/

/-- The effective address as a sum of words (20_memory.md R147). -/
theorem ea_eq_add (s : State) (a : GReg) (i : Imm9) : s.ea a i = s.imm i + s.r a := by
  unfold State.ea reg32 sext32
  rw [BitVec.ofInt_add, BitVec.ofInt_toInt, BitVec.ofInt_toInt]

theorem isDBreakHit_eq_false {s : State} {a : Word} (h : ¬DataBreak s a) : isDBreakHit s a = false :=
  Bool.eq_false_iff.2 fun hb => h (by simpa [isDBreakHit, State.dbreakEnable, DataBreak] using hb)

theorem isCRegSpace_of_toNat {a : Word} {off : Nat} (ha : a.toNat = 0xFFFF0000 + off) : isCRegSpace a = true := by
  have := a.isLt
  have : a.extractLsb' 16 16 = 0xFFFF#16 := by
    apply BitVec.eq_of_toNat_eq
    simp only [BitVec.extractLsb'_toNat, Nat.shiftRight_eq_div_pow, BitVec.toNat_ofNat]
    omega
  simp [isCRegSpace, this]

/-- The register at an offset of the block. -/
theorem cregAt_of_toNat {a : Word} {off : Nat} (ha : a.toNat = 0xFFFF0000 + off) : cregAt a = cregTable.lookup off := by
  have := a.isLt
  unfold cregAt
  rw [if_pos (isCRegSpace_of_toNat ha), ha]
  congr 1
  omega

/-- A supervisor may access every register of the map (10_state.md R54, R55). -/
theorem cregCheck_supervisor {s : State} {a : Word} {off : Nat} {r : CReg} (hs : s.psw.getLsbD 0 = false)
    (ha : a.toNat = 0xFFFF0000 + off) (hr : cregTable.lookup off = some r) : cregCheck s a = .ok r := by
  have hn : accessCode s r ≠ .na := by
    simp only [accessCode, State.userMode, hs]
    cases r <;> simp [supervisorAccess]
  unfold cregCheck
  rw [cregAt_of_toNat ha, hr]
  exact if_neg hn

/-! ## Loads -/

/-- Only a load of TLB_REPLACE has an effect of its own (20_memory.md R164). -/
theorem cregReadEffect_eq (s : State) {r : CReg} (h : r ≠ .tlbReplace) : cregReadEffect s r = s := by
  unfold cregReadEffect
  split
  · exact absurd rfl h
  · rfl

/-- A supervisor's word load of a control register but SDI DATA and TLB_REPLACE writes its value to the destination. -/
theorem exec_ldw_creg {d a : GReg} {i : Imm9} {s : State} {off : Nat} {r : CReg} (hs : s.psw.getLsbD 0 = false)
    (hb : ¬DataBreak s (s.imm i + s.r a)) (ha : (s.imm i + s.r a).toNat = 0xFFFF0000 + off)
    (hr : cregTable.lookup off = some r) (clocked : r ≠ .tlbReplace) (data : ∀ p, r ≠ .sdiData p) :
    exec (.ldw d a i) s = .next (s.writeR d (cregValue s r)) := by
  have hc : cregLoad (s.imm i + s.r a) d s = .next (s.writeR d (cregValue s r)) := by
    unfold cregLoad
    rw [cregCheck_supervisor hs ha hr]
    split
    · cases ‹Except.ok r = _›
    · cases ‹Except.ok r = _›
      exact absurd rfl (data _)
    · cases ‹Except.ok r = _›
      rw [cregReadEffect_eq s clocked]
  simp only [exec, execLdw, loadOp, ea_eq_add]
  rw [isDBreakHit_eq_false hb, isCRegSpace_of_toNat ha]
  simpa using hc

theorem cregReads_of_lookup {off : Nat} {r : CReg} {val : State → Word} (hr : cregTable.lookup off = some r)
    (hv : ∀ s, cregValue s r = val s) (clocked : r ≠ .tlbReplace := by simp) (data : ∀ p, r ≠ .sdiData p := by simp) :
    CRegReads off val :=
  fun _ _ _ s hs hb ha => hv s ▸ exec_ldw_creg hs hb ha hr clocked data

/-- The entry TLB_INDEX selects. -/
theorem Tlb.current_of_getElem? {t : Tlb} {e : TlbEntry} (h : t.entries[t.index.toNat]? = some e) : t.current = e := by
  unfold Tlb.current
  rw [List.getD_eq_getElem?_getD, Vector.getElem?_toList, h]
  rfl

theorem entryReads_of_lookup {off : Nat} {r : CReg} {val : TlbEntry → Nat} (hr : cregTable.lookup off = some r)
    (hv : ∀ s, (cregValue s r).toNat = val s.tlb.current) (clocked : r ≠ .tlbReplace := by simp)
    (data : ∀ p, r ≠ .sdiData p := by simp) : EntryReads off val := by
  intro d a i s e hs hb ha he
  rw [exec_ldw_creg hs hb ha hr clocked data, ← Tlb.current_of_getElem? he, ← hv, BitVec.ofNat_toNat, BitVec.setWidth_eq]

/-! ## Values by field positions -/

theorem toNat_append_eq {m n : Nat} (x : BitVec m) (y : BitVec n) : (x ++ y).toNat = x.toNat * 2 ^ n + y.toNat := by
  rw [BitVec.toNat_append, Nat.shiftLeft_eq, mul_comm, Nat.two_pow_add_eq_or_of_lt y.isLt]

theorem toNat_zero_append {m n : Nat} (x : BitVec n) : (0#m ++ x).toNat = x.toNat := by simp

theorem toNat_bit1 (b : Bool) : (bit1 b).toNat = bitNumber b := by cases b <;> rfl

/-- A field below zeros. -/
theorem zero_append {m n : Nat} (x : BitVec n) : 0#m ++ x = x.setWidth (m + n) := by
  apply BitVec.eq_of_toNat_eq
  rw [toNat_append_eq, BitVec.toNat_setWidth, Nat.mod_eq_of_lt]
  · simp
  · exact x.isLt.trans_le (Nat.pow_le_pow_right (by omega) (by omega))

theorem eq_ofNat_of_toNat {w : Word} {n : Nat} (h : w.toNat = n) : w = BitVec.ofNat 32 n := by
  rw [← h, BitVec.ofNat_toNat, BitVec.setWidth_eq]

theorem word0_toNat (e : TlbEntry) : e.word0.toNat = entryNumber e := by
  simp only [TlbEntry.word0, entryNumber, toNat_append_eq, toNat_bit1, BitVec.toNat_ofNat]
  omega

theorem excause_toNat (e : TlbExcause) : e.word.toNat =
    e.index.toNat + e.cause.toNat * 2 ^ 16 + bitNumber e.spec * 2 ^ 18 + bitNumber e.write * 2 ^ 19 +
      bitNumber e.inUtlb * 2 ^ 20 := by
  simp only [TlbExcause.word, toNat_append_eq, toNat_bit1, BitVec.toNat_ofNat]
  omega

theorem pmCr_toNat (p : Pm) : p.cr.toNat =
    bitNumber p.enb + bitNumber p.idle * 2 ^ 2 + p.events[0].toNat * 2 ^ 12 + p.events[1].toNat * 2 ^ 17 +
      p.events[2].toNat * 2 ^ 22 + p.events[3].toNat * 2 ^ 27 := by
  simp only [Pm.cr, toNat_append_eq, toNat_bit1, BitVec.toNat_ofNat]
  omega

theorem sdiControl_toNat (c : SdiCfg) (p : SdiPort) : (p.control c).toNat =
    p.priv.toNat + bitNumber p.resetIn * 2 ^ 2 + bitNumber p.resetOut * 2 ^ 3 + bitNumber c.isInput * 2 ^ 4 +
      bitNumber c.isMaster * 2 ^ 6 + bitNumber p.timeoutDisable * 2 ^ 7 := by
  simp only [SdiPort.control, toNat_append_eq, toNat_bit1, BitVec.toNat_ofNat]
  omega

theorem excause_word (n : BitVec 5) : 1#32 <<< n.toNat = BitVec.ofNat 32 (2 ^ n.toNat) := by
  apply BitVec.eq_of_toNat_eq
  simp [Nat.shiftLeft_eq]

/-! ## The map of 10_state.md R55 for the registers that come in groups -/

theorem lookup_scratch (k : Fin 4) : cregTable.lookup (0xFFA8 - 8 * k.val) = some (.scratch k) := by
  revert k; decide

theorem lookup_reserved (k : Fin 8) : cregTable.lookup (0xFF00 + 8 * k.val) = some .reserved ∧
    cregTable.lookup (0xFE08 + 8 * k.val) = some .reserved := by
  revert k; decide

theorem lookup_pmCnt (k : Fin 4) : cregTable.lookup (0xF808 + 8 * k.val) = some (.pmCnt k) := by revert k; decide

theorem lookup_sdi (k : Fin 4) : cregTable.lookup (0xE008 + 0x400 * k.val) = some (.sdiReady k) ∧
    cregTable.lookup (0xE010 + 0x400 * k.val) = some (.sdiControl k) ∧
    cregTable.lookup (0xE018 + 0x400 * k.val) = some (.sdiCount k) ∧
    cregTable.lookup (0xE020 + 0x400 * k.val) = some (.sdiTimeout k) := by
  revert k; decide

theorem lookup_scu (k : Fin 4) : cregTable.lookup (0xD000 + 16 * k.val) = some (.scuBase k) ∧
    cregTable.lookup (0xD008 + 16 * k.val) = some (.scuLimit k) := by
  revert k; decide

/-- Settles O23: the map names the register at each offset, and its value is put together from the fields of its rule. -/
theorem controlRegistersReadTheirState : Obligations.ControlRegistersReadTheirState := by
  refine ⟨⟨?_, ?_, ?_, ?_, ?_, ?_, ?_, ?_, ?_, ?_, ?_⟩, fun k => ?_, ⟨?_, ?_, ?_, ?_, ?_, ?_, ?_, ?_⟩, fun k => ⟨?_, ?_⟩,
    ⟨?_, ?_, ?_, ?_, ?_, ?_, ?_⟩, ⟨?_, fun k => ?_, ?_⟩, fun k => ⟨?_, ?_, ?_, ?_, ?_⟩⟩
  · exact cregReads_of_lookup (r := .psw) rfl fun _ => rfl
  · exact cregReads_of_lookup (r := .savedPsw) rfl fun _ => rfl
  · exact cregReads_of_lookup (r := .savedPc) rfl fun _ => rfl
  · exact cregReads_of_lookup (r := .handlerPc) rfl fun _ => rfl
  · exact cregReads_of_lookup (r := .excause) rfl fun s => excause_word s.excauseno
  · exact cregReads_of_lookup (r := .exaddress) rfl fun _ => rfl
  · exact cregReads_of_lookup (r := .version) rfl fun _ => rfl
  · exact cregReads_of_lookup (r := .savedSavedPsw) rfl fun _ => rfl
  · exact cregReads_of_lookup (r := .savedSavedPc) rfl fun _ => rfl
  · exact cregReads_of_lookup (r := .peripheralBase) rfl fun _ => rfl
  · exact cregReads_of_lookup (r := .excauseno) rfl fun _ => zero_append _
  · exact cregReads_of_lookup (lookup_scratch k) fun _ => rfl
  · exact cregReads_of_lookup (r := .tlbIndex) rfl fun _ => zero_append _
  · exact entryReads_of_lookup (r := .tlbEntry0) rfl fun s => word0_toNat s.tlb.current
  · exact entryReads_of_lookup (r := .tlbEntry1) rfl fun s => toNat_zero_append s.tlb.current.vaddr
  · exact entryReads_of_lookup (r := .tlbEntry2) rfl fun s => toNat_zero_append s.tlb.current.paddr
  · exact cregReads_of_lookup (r := .tlbEntry3) rfl fun _ => rfl
  · exact cregReads_of_lookup (r := .tlbControl) rfl fun _ => rfl
  · exact cregReads_of_lookup (r := .tlbAsid) rfl fun _ => zero_append _
  · exact cregReads_of_lookup (r := .tlbExcause) rfl fun s => eq_ofNat_of_toNat (excause_toNat s.tlb.excause)
  · exact cregReads_of_lookup (lookup_reserved k).1 fun _ => rfl
  · exact cregReads_of_lookup (lookup_reserved k).2 fun _ => rfl
  · exact cregReads_of_lookup (r := .dbreakLower) rfl fun _ => rfl
  · exact cregReads_of_lookup (r := .dbreakUpper) rfl fun _ => rfl
  · exact cregReads_of_lookup (r := .dbreakControl) rfl fun _ => zero_append _
  · exact cregReads_of_lookup (r := .state1) rfl fun _ => zero_append _
  · exact cregReads_of_lookup (r := .ibreakLower) rfl fun _ => rfl
  · exact cregReads_of_lookup (r := .ibreakUpper) rfl fun _ => rfl
  · exact cregReads_of_lookup (r := .ibreakControl) rfl fun _ => zero_append _
  · exact cregReads_of_lookup (r := .pmCr) rfl fun s => eq_ofNat_of_toNat (pmCr_toNat s.pm)
  · exact cregReads_of_lookup (lookup_pmCnt k) fun _ => rfl
  · exact cregReads_of_lookup (r := .pmPclk) rfl fun _ => rfl
  · exact cregReads_of_lookup (lookup_sdi k).2.1 fun s => eq_ofNat_of_toNat (sdiControl_toNat s.cfg.sdi[k] s.sdi[k])
  · exact cregReads_of_lookup (lookup_sdi k).2.2.1 fun _ => rfl
  · exact cregReads_of_lookup (lookup_sdi k).2.2.2 fun _ => rfl
  · exact cregReads_of_lookup (lookup_scu k).1 fun _ => zero_append _
  · exact cregReads_of_lookup (lookup_scu k).2 fun _ => zero_append _

/-! ## Stores -/

/-- The registers that count for the performance counters stand where the map has them (61_platform_devices.md R672). -/
theorem notedAs_of_lookup {off : Nat} {r : CReg} (hr : cregTable.lookup off = some r) : NotedAs off r := by
  have noted : ∀ x ∈ cregTable, NotedAs x.1 x.2 := by unfold NotedAs; decide
  obtain ⟨l, m, e, -⟩ := List.lookup_eq_some_iff.1 hr
  exact noted (off, r) (by simp [e])

/-- A supervisor's word store to a control register but SDI DATA. -/
theorem exec_stw_creg {b a : GReg} {i : Imm9} {s : State} {off : Nat} {r : CReg} (hs : s.psw.getLsbD 0 = false)
    (hb : ¬DataBreak s (s.imm i + s.r a)) (ha : (s.imm i + s.r a).toNat = 0xFFFF0000 + off)
    (hr : cregTable.lookup off = some r) (data : ∀ p, r ≠ .sdiData p) :
    exec (.stw b a i) s = .next { cregUpdate s r (s.r b) with cregStored := some r } := by
  have hc : cregStore (s.imm i + s.r a) (s.r b) s = .next { cregUpdate s r (s.r b) with cregStored := some r } := by
    unfold cregStore
    rw [cregCheck_supervisor hs ha hr]
    split
    · cases ‹Except.ok r = _›
    · cases ‹Except.ok r = _›
      exact absurd rfl (data _)
    · cases ‹Except.ok r = _›
      rfl
  simp only [exec, execStw, storeOp, ea_eq_add]
  rw [isDBreakHit_eq_false hb, isCRegSpace_of_toNat ha]
  simpa using hc

theorem cregTakes_of_lookup {off : Nat} {r : CReg} {upd : Word → State → State} (hr : cregTable.lookup off = some r)
    (hu : ∀ v s, cregUpdate s r v = upd v s) (data : ∀ p, r ≠ .sdiData p := by simp) : CRegTakes off upd :=
  fun b _ _ s hs hb ha =>
    ⟨upd (s.r b) s, r, notedAs_of_lookup hr, rfl, hu (s.r b) s ▸ exec_stw_creg hs hb ha hr data⟩

/-- The low bits of a word. -/
theorem extractLsb'_zero_eq (n : Nat) (v : Word) : v.extractLsb' 0 n = v.setWidth n := by
  ext k hk; simp

/-- A field of a word. -/
theorem extractLsb'_eq_shift (i n : Nat) (v : Word) : v.extractLsb' i n = (v >>> i).setWidth n := by
  ext k hk; simp

/-- Settles O24: the map names the register at each offset, and a store gives its writable fields the bits of the word. -/
theorem controlRegisterStoresFollowTheirFields : Obligations.ControlRegisterStoresFollowTheirFields := by
  refine ⟨⟨?_, ?_, ?_, ?_, ?_, fun k => ⟨?_, ?_⟩, fun k => ?_⟩, ⟨?_, ?_, ?_, ?_⟩, ⟨?_, ?_, ?_, fun k => ?_, ?_⟩,
    ⟨?_, ?_, ?_, ?_, ?_, ?_⟩, ⟨?_, fun k => ?_, ?_⟩, fun k => ⟨?_, ?_, ?_, ?_, ?_⟩⟩
  · exact cregTakes_of_lookup (r := .psw) rfl fun _ _ => rfl
  · exact cregTakes_of_lookup (r := .excause) rfl fun _ _ => rfl
  · exact cregTakes_of_lookup (r := .version) rfl fun _ _ => rfl
  · exact cregTakes_of_lookup (r := .peripheralBase) rfl fun _ _ => rfl
  · exact cregTakes_of_lookup (r := .tlbEntry3) rfl fun _ _ => rfl
  · exact cregTakes_of_lookup (lookup_reserved k).1 fun _ _ => rfl
  · exact cregTakes_of_lookup (lookup_reserved k).2 fun _ _ => rfl
  · exact cregTakes_of_lookup (lookup_sdi k).1 fun _ _ => rfl
  · exact cregTakes_of_lookup (r := .savedPsw) rfl fun _ _ => rfl
  · exact cregTakes_of_lookup (r := .savedPc) rfl fun _ _ => rfl
  · exact cregTakes_of_lookup (r := .savedSavedPsw) rfl fun _ _ => rfl
  · exact cregTakes_of_lookup (r := .savedSavedPc) rfl fun _ _ => rfl
  · exact cregTakes_of_lookup (r := .handlerPc) rfl fun _ _ => rfl
  · exact cregTakes_of_lookup (r := .exaddress) rfl fun _ _ => rfl
  · exact cregTakes_of_lookup (r := .excauseno) rfl fun v _ => by simp only [cregUpdate, extractLsb'_zero_eq]
  · exact cregTakes_of_lookup (lookup_scratch k) fun _ _ => rfl
  · exact cregTakes_of_lookup (r := .state1) rfl fun v _ => by simp only [cregUpdate, extractLsb'_zero_eq]
  · exact cregTakes_of_lookup (r := .dbreakLower) rfl fun _ _ => rfl
  · exact cregTakes_of_lookup (r := .dbreakUpper) rfl fun _ _ => rfl
  · exact cregTakes_of_lookup (r := .dbreakControl) rfl fun v _ => by simp only [cregUpdate, extractLsb'_zero_eq]
  · exact cregTakes_of_lookup (r := .ibreakLower) rfl fun _ _ => rfl
  · exact cregTakes_of_lookup (r := .ibreakUpper) rfl fun _ _ => rfl
  · exact cregTakes_of_lookup (r := .ibreakControl) rfl fun v _ => by simp only [cregUpdate, extractLsb'_zero_eq]
  · exact cregTakes_of_lookup (r := .pmCr) rfl fun v s => by
      simp only [cregUpdate, Pm.writeCr, extractLsb'_eq_shift]
      cases v.getLsbD 2 <;> simp <;> rfl
  · exact cregTakes_of_lookup (lookup_pmCnt k) fun _ _ => rfl
  · exact cregTakes_of_lookup (r := .pmPclk) rfl fun _ _ => rfl
  · exact cregTakes_of_lookup (lookup_sdi k).2.1 fun v s => by
      simp only [cregUpdate, SdiPort.setControl, extractLsb'_zero_eq, State.setSdi]
      simp [and_assoc]
  · exact cregTakes_of_lookup (lookup_sdi k).2.2.1 fun _ _ => rfl
  · exact cregTakes_of_lookup (lookup_sdi k).2.2.2 fun _ _ => rfl
  · exact cregTakes_of_lookup (lookup_scu k).1 fun v _ => by simp only [cregUpdate, extractLsb'_zero_eq]
  · exact cregTakes_of_lookup (lookup_scu k).2 fun v _ => by simp only [cregUpdate, extractLsb'_zero_eq]

end Sys2Proof.Machine
end

section
/-! PROOF. Bundles: from the rules of legality to the model's checks, the commit of all operations together, and the step of
a bundle of one operation (10_state.md R91 to R96, 30_encoding.md R310 to R321). -/

namespace Sys2Proof.Machine

open Sys2Proof.Rules

/-! ## Syllables by position -/

/-- The syllable at position `k` of a bundle, with its neighbours. -/
theorem getElem?_syllables (a : Word) (p : Option Instr) (is : List Instr) (k : Nat) :
    (syllables a p is)[k]? =
      is[k]?.map fun i => ⟨a + BitVec.ofNat 32 (4 * k), if k = 0 then p else is[k - 1]?, i, is[k + 1]?⟩ := by
  induction is generalizing a p k with
  | nil => rfl
  | cons i is ih =>
    cases k with
    | zero => simp [syllables, List.head?_eq_getElem?]
    | succ k =>
      have addr : a + 4#32 + BitVec.ofNat 32 (4 * k) = a + BitVec.ofNat 32 (4 * (k + 1)) := by
        rw [BitVec.add_assoc, Nat.mul_succ, Nat.add_comm, BitVec.ofNat_add]
      have prev : (if k = 0 then some i else is[k - 1]?) = (i :: is)[k]? := by cases k <;> simp
      simp [syllables, ih, addr, prev]

theorem mem_syllables {a : Word} {is : List Instr} {x : Syllable} (h : x ∈ syllables a none is) :
    ∃ k i, is[k]? = some i ∧
      x = ⟨syllableAddr a k, if k = 0 then none else is[k - 1]?, i, is[k + 1]?⟩ := by
  obtain ⟨k, hk⟩ := List.mem_iff_getElem?.1 h
  rw [getElem?_syllables, Option.map_eq_some_iff] at hk
  obtain ⟨i, hi, rfl⟩ := hk
  exact ⟨k, i, hi, rfl⟩

/-- An operation of a bundle by its position, which fixes its extension. -/
theorem mem_operations {pc : Word} {is : List Instr} {o : Instr × Option Instr} (h : o ∈ operations pc is) :
    ∃ (k : Nat) (x : Syllable), (syllables pc none is)[k]? = some x ∧ is[k]? = some o.1 ∧ o = (x.instr, x.extension) := by
  obtain ⟨x, hx, rfl⟩ := List.mem_map.1 h
  obtain ⟨k, hk⟩ := List.mem_iff_getElem?.1 (List.mem_of_mem_filter hx)
  refine ⟨k, x, hk, ?_, rfl⟩
  rw [getElem?_syllables, Option.map_eq_some_iff] at hk
  obtain ⟨i, hi, rfl⟩ := hk
  exact hi

theorem instr_mem_of_operations {pc : Word} {is : List Instr} {o : Instr × Option Instr} (h : o ∈ operations pc is) :
    o.1 ∈ is := by
  obtain ⟨k, -, -, hk, -⟩ := mem_operations h
  exact List.mem_of_getElem? hk

/-- Two operations of a bundle that can only stand in one place are the same. -/
theorem operations_eq_of_place {pc : Word} {is : List Instr} {o o' : Instr × Option Instr} (h : o ∈ operations pc is)
    (h' : o' ∈ operations pc is) (place : ∀ j k : Nat, is[j]? = some o.1 → is[k]? = some o'.1 → j = k) : o = o' := by
  obtain ⟨j, x, hx, hj, rfl⟩ := mem_operations h
  obtain ⟨k, y, hy, hk, rfl⟩ := mem_operations h'
  obtain rfl := place j k hj hk
  cases hx.symm.trans hy
  rfl

/-! ## Legality -/

theorem length_filter_le_one {α : Type} {p : α → Bool} {xs : List α}
    (h : ∀ (j k : Nat) (x y : α), xs[j]? = some x → xs[k]? = some y → p x = true → p y = true → j = k) :
    (xs.filter p).length ≤ 1 := by
  induction xs with
  | nil => simp
  | cons a xs ih =>
    rw [List.filter_cons]
    split
    · rename_i ha
      have none : xs.filter p = [] := List.filter_eq_nil_iff.2 fun y hy py => by
        obtain ⟨k, hk⟩ := List.mem_iff_getElem?.1 hy
        exact absurd (h 0 (k + 1) a y rfl hk ha py) (by simp)
      simp [none]
    · exact ih fun j k x y hx hy px py => by simpa using h (j + 1) (k + 1) x y hx hy px py

theorem nodup_filterMap {α β : Type} {f : α → Option β} {xs : List α}
    (h : ∀ (j k : Nat) (x y : α) (r : β), xs[j]? = some x → xs[k]? = some y → f x = some r → f y = some r → j = k) :
    (xs.filterMap f).Nodup := by
  induction xs with
  | nil => simp
  | cons a xs ih =>
    have rest : (xs.filterMap f).Nodup :=
      ih fun j k x y r hx hy fx fy => by simpa using h (j + 1) (k + 1) x y r hx hy fx fy
    cases ha : f a with
    | none => rwa [List.filterMap_cons_none ha]
    | some r =>
      rw [List.filterMap_cons_some ha, List.nodup_cons]
      refine ⟨fun hr => ?_, rest⟩
      obtain ⟨y, hy, fy⟩ := List.mem_filterMap.1 hr
      obtain ⟨k, hk⟩ := List.mem_iff_getElem?.1 hy
      exact absurd (h 0 (k + 1) a y r rfl hk ha fy) (by simp)

theorem distinct_of_nodup {α : Type} [DecidableEq α] {xs : List α} (h : xs.Nodup) : distinct xs = true := by
  induction xs with
  | nil => rfl
  | cons x xs ih =>
    obtain ⟨hx, h⟩ := List.nodup_cons.1 h
    simp [distinct, hx, ih h]

theorem parityOk_of_placeLegal {pc : Word} {is : List Instr} {k : Nat} {i : Instr} (h : PlaceLegal pc is k i)
    (p n : Option Instr) : parityOk ⟨syllableAddr pc k, p, i, n⟩ = true := by
  unfold parityOk
  dsimp only
  split
  · exact h.odd ‹_›
  · simpa [oddWord] using h.even (.inl ‹_›)
  · simpa [oddWord] using h.even (.inr ‹_›)
  · rfl

theorem placeOk_of_placeLegal {pc : Word} {is : List Instr} {k : Nat} {i : Instr} (h : PlaceLegal pc is k i)
    (n : Option Instr) : placeOk ⟨syllableAddr pc k, if k = 0 then none else is[k - 1]?, i, n⟩ = true := by
  unfold placeOk firstOnly
  dsimp only
  split
  · simp [h.first (.inl ‹_›)]
  · simp [h.first (.inr (.inl ‹_›))]
  · simp [h.first (.inr (.inr ‹_›))]
  · rfl

theorem extensionOk_of_placeLegal {pc : Word} {is : List Instr} {k : Nat} {i : Instr} (h : PlaceLegal pc is k i) :
    extensionOk ⟨syllableAddr pc k, if k = 0 then none else is[k - 1]?, i, is[k + 1]?⟩ = true := by
  unfold extensionOk
  dsimp only
  split
  · obtain ⟨hk, j, hj, he⟩ := h.left ‹_›
    simp [Nat.ne_of_gt hk, hj, he]
  · obtain ⟨j, hj, he⟩ := h.right ‹_›
    simp [hj, he]
  · split
    · rename_i x y hp hn
      split at hp
      · cases hp
      · exact absurd hn (h.single x y (by omega) hp)
    · rfl

theorem operationsOf_of_decodes {ws : List Word} {is : List Instr} (h : ws.map decodeSyllable = is.map Except.ok) :
    operationsOf ws = some is := by
  unfold operationsOf
  induction ws generalizing is with
  | nil =>
    obtain rfl : is = [] := by simpa using h.symm
    rfl
  | cons w ws ih =>
    cases is with
    | nil => simp at h
    | cons i is =>
      obtain ⟨hw, hws⟩ := List.cons.inj h
      have : operationOf w = some i := by unfold operationOf; rw [hw]; rfl
      rw [List.mapM_cons, this, ih hws]
      rfl

/-- R311 to R321: what the rules call legal the model takes as a legal bundle. -/
theorem legalBundle_of_legal {pc : Word} {ws : List Word} {is : List Instr} (h : Legal pc ws is) :
    legalBundle pc ws = some is := by
  have stop : hasStop ws = true := by
    obtain ⟨w, hw, hs⟩ := h.stop
    simp [hasStop, hw, stopBit, hs]
  have unit : lsuOk is = true := decide_eq_true (length_filter_le_one h.unit)
  have alone : aloneOk is = true := by
    by_cases ha : ∃ i ∈ is, kindOf i = .alone
    · obtain ⟨i, hi, hk⟩ := ha
      simp [aloneOk, h.alone i hi hk]
    · have : ∀ i ∈ is, kindOf i ≠ .alone := fun i hi hk => ha ⟨i, hi, hk⟩
      unfold aloneOk
      rw [Bool.or_eq_true, List.all_eq_true]
      exact .inl fun i hi => by simpa using this i hi
  have dests : destsOk is = true := by
    unfold destsOk
    rw [List.filter_filterMap, Bool.and_eq_true]
    refine ⟨distinct_of_nodup (nodup_filterMap fun j k x y r hx hy dx dy => ?_),
      distinct_of_nodup (nodup_filterMap fun j k x y c hx hy dx dy => h.dests j k x y hx hy (.inr ⟨c, dx, dy⟩))⟩
    rw [Option.filter_eq_some_iff] at dx dy
    exact h.dests j k x y hx hy (.inl ⟨r, by simpa using dx.2, dx.1, dy.1⟩)
  have places : ∀ x ∈ syllables pc none is, (parityOk x && placeOk x && extensionOk x) = true := by
    intro x hx
    obtain ⟨k, i, hi, rfl⟩ := mem_syllables hx
    have place := h.places k i hi
    rw [parityOk_of_placeLegal place, placeOk_of_placeLegal place, extensionOk_of_placeLegal place]
    rfl
  have ops : legalOps pc is = true := by
    unfold legalOps
    rw [List.all_eq_true.2 h.formed, unit, alone, dests, List.all_eq_true.2 places]
    rfl
  unfold legalBundle
  rw [operationsOf_of_decodes h.decodes]
  simp [stop, ops]

/-! ## Copying destinations -/

theorem r_copyDests (r : GReg) (i : Instr) (t acc : State) :
    (copyDests i t acc).r r = if destG i = some r then t.r r else acc.r r := by
  cases hd : destG i with
  | none =>
    have kept : (copyDests i t acc).r r = acc.r r := by
      unfold copyDests
      rw [hd]
      cases destB i <;> cases changesPc i <;> rfl
    simpa using kept
  | some d =>
    have written : (copyDests i t acc).r r = (acc.writeR d (t.r d)).r r := by
      unfold copyDests
      rw [hd]
      cases destB i <;> cases changesPc i <;> rfl
    rw [written, r_writeR]
    by_cases hr : r = d
    · subst hr
      by_cases h0 : r = 0#6
      · subst h0; simp
      · simp [h0]
    · rw [if_neg fun h => hr h.1, if_neg fun h => hr (Option.some.inj h).symm]

theorem b_copyDests (c : BReg) (i : Instr) (t acc : State) :
    (copyDests i t acc).b c = if destB i = some c then t.b c else acc.b c := by
  cases hd : destB i with
  | none =>
    have kept : (copyDests i t acc).b c = acc.b c := by
      unfold copyDests
      rw [hd]
      cases destG i <;> cases changesPc i <;> rfl
    simpa using kept
  | some d =>
    have written : (copyDests i t acc).b c = (acc.writeB d (t.b d)).b c := by
      unfold copyDests
      rw [hd]
      cases destG i <;> cases changesPc i <;> rfl
    rw [written, b_writeB]
    by_cases hc : c = d
    · subst hc; simp
    · rw [if_neg hc, if_neg fun h => hc (Option.some.inj h).symm]

theorem nextPc_copyDests (i : Instr) (t acc : State) :
    (copyDests i t acc).nextPc = if changesPc i = true then t.nextPc else acc.nextPc := by
  obtain ⟨g, b, v, e⟩ := copyDests_changes i t acc
  rw [e]

/-- The register files, slr_valid and NEXT_PC are all that copying destinations changes. -/
theorem foldl_copyDests_changes (rs : List (Instr × State)) (s : State) :
    ∃ g b v p, rs.foldl (fun acc x => copyDests x.1 x.2 acc) s = { s with gpr := g, br := b, slrValid := v, nextPc := p } := by
  induction rs generalizing s with
  | nil => exact ⟨_, _, _, _, rfl⟩
  | cons x rs ih =>
    obtain ⟨g, b, v, e⟩ := copyDests_changes x.1 x.2 s
    obtain ⟨g', b', v', p', e'⟩ := ih (copyDests x.1 x.2 s)
    refine ⟨g', b', v', p', ?_⟩
    rw [List.foldl_cons, e', e]

/-- A component `f` of the state that `copyDests` takes from the operations that `p` names: if these agree on it, and one of
them is there or the component starts with that value, it is the one they agree on. -/
theorem foldl_copyDests_eq {α : Type} {f : State → α} {p : Instr → Prop} [DecidablePred p]
    (law : ∀ i t acc, f (copyDests i t acc) = if p i then f t else f acc) {v : α} {rs : List (Instr × State)}
    (agree : ∀ x ∈ rs, p x.1 → f x.2 = v) {s : State} (start : f s = v ∨ ∃ x ∈ rs, p x.1) :
    f (rs.foldl (fun acc x => copyDests x.1 x.2 acc) s) = v := by
  induction rs generalizing s with
  | nil => simpa using start
  | cons x rs ih =>
    obtain ⟨hx, rest⟩ := List.forall_mem_cons.1 agree
    refine ih rest ?_
    rw [law]
    by_cases hp : p x.1
    · exact .inl (by rw [if_pos hp, hx hp])
    · rw [if_neg hp]
      simpa [hp] using start

/-! ## The commit of a bundle -/

theorem kindOf_of_not_lsu {i : Instr} (h : usesLsu i = false) :
    kindOf i ≠ .memory ∧ kindOf i ≠ .psw ∧ kindOf i ≠ .rfi := by
  refine ⟨?_, ?_, ?_⟩ <;> intro e <;> simp [usesLsu, e] at h

/-- What a completed operation that neither uses the load/store unit nor is `prgins` changes: registers, NEXT_PC, the
extension in force and, idle mode. -/
theorem Effect.changes_of_not_lsu {i : Instr} {s t : State} (h : Effect s i t) (done : t.signal = .done)
    (lsu : usesLsu i = false) (prgins : i ≠ .prgins) :
    ∃ g b v x p c k, t = { s with
      gpr := g, br := b, slrValid := v, ext := x, nextPc := p, coreIdle := c, pm := { s.pm with idle := k } } := by
  obtain ⟨memory, psw, rfi⟩ := kindOf_of_not_lsu lsu
  cases h with
  | registers _ writes =>
    generalize destG i = g, destB i = b at writes
    cases writes <;> exact ⟨_, _, _, _, _, _, _, rfl⟩
  | trap r => simp at done
  | load unit | dismissible unit | store unit => exact absurd unit memory
  | caches _ _ unit =>
    obtain unit | rfl := unit
    · exact absurd unit memory
    · exact absurd rfl prgins
  | psw _ _ unit => exact absurd unit psw
  | rfi => exact absurd rfl rfi
  | extension | fallThrough | jump | call | idle => exact ⟨_, _, _, _, _, _, _, rfl⟩

theorem runOps_exists {s : State} {ops : List (Instr × Option Instr)} (h : ∀ o ∈ ops, ∃ u, runOp s o = .next u) :
    ∃ rs, runOps s ops = .next rs := by
  induction ops with
  | nil => exact ⟨[], rfl⟩
  | cons o ops ih =>
    obtain ⟨⟨t, ht⟩, rest⟩ := List.forall_mem_cons.1 h
    obtain ⟨ts, hts⟩ := ih rest
    exact ⟨_, runOps_cons.2 ⟨t, ts, ht, hts, rfl⟩⟩

theorem pickTrap_eq_none {ts : List State} (h : ∀ t ∈ ts, t.signal = .done) : pickTrap ts = none := by
  induction ts with
  | nil => rfl
  | cons t ts ih =>
    obtain ⟨ht, h⟩ := List.forall_mem_cons.1 h
    simp [pickTrap, ht, Signal.exc, ih h]

/-- When no operation raises or waits, the bundle commits. -/
theorem outcomeOf_of_done (s : State) (ws : List Word) (is : List Instr) {rs : List (Instr × State)}
    (h : ∀ x ∈ rs, x.2.signal = .done) : outcomeOf s ws is rs = ⟨.committed is, commitAll s rs⟩ := by
  have done : ∀ t ∈ rs.map Prod.snd, t.signal = .done := List.forall_mem_map.2 h
  have nowait : (rs.map Prod.snd).find? (fun t => t.signal == .stalled) = none :=
    List.find?_eq_none.2 fun t ht => by simp [done t ht]
  unfold outcomeOf
  rw [pickTrap_eq_none done, nowait]

/-- The results of the operations of a legal bundle, all completed. -/
structure Completed (s : State) (pc : Word) (ws : List Word) (is : List Instr) (rs : List (Instr × State)) : Prop where
  legal : Legal pc ws is
  results : runOps s (operations pc is) = .next rs
  done : ∀ x ∈ rs, x.2.signal = .done

namespace Completed

variable {s : State} {pc : Word} {ws : List Word} {is : List Instr} {rs : List (Instr × State)}

/-- Every result is that of an operation of the bundle. -/
theorem exec_of_mem (h : Completed s pc ws is rs) {x : Instr × State} (hx : x ∈ rs) :
    x.1 ∈ is ∧ ∃ e, exec x.1 { s with ext := e } = .next x.2 := by
  obtain ⟨o, ho, e, hr⟩ := (mem_runOps h.results x).1 hx
  obtain ⟨y, hy⟩ := runOp_of_operations ho s
  exact ⟨e ▸ instr_mem_of_operations ho, y, e ▸ hy.symm.trans hr⟩

/-- An operation that can only stand in one place of the bundle has the only result of its sort. -/
theorem eq_of_place (h : Completed s pc ws is rs) {o : Instr × Option Instr} (ho : o ∈ operations pc is) {u : State}
    (hu : runOp s o = .next u) {x : Instr × State} (hx : x ∈ rs)
    (place : ∀ j k : Nat, is[j]? = some o.1 → is[k]? = some x.1 → j = k) : x.2 = u := by
  obtain ⟨o', ho', e, hr⟩ := (mem_runOps h.results x).1 hx
  obtain rfl := operations_eq_of_place ho ho' (by rw [e]; exact place)
  exact next_inj (hr.symm.trans hu)

/-- The bundle's commit starts from the result of the operation that may change more than registers. -/
theorem commitBase_eq (h : Completed s pc ws is rs) {o : Instr × Option Instr} (ho : o ∈ operations pc is) {u : State}
    (hu : runOp s o = .next u) (base : usesLsu o.1 = true ∨ operations pc is = [o]) : commitBase s rs = u := by
  have mem : (o.1, u) ∈ rs := (mem_runOps h.results _).2 ⟨o, ho, rfl, hu⟩
  unfold commitBase
  split
  · exact congrArg Prod.snd (List.mem_singleton.1 mem).symm
  · rename_i many
    obtain lsu | single := base
    · split
      · rename_i x hx
        have lsu' : usesLsu x.1 = true := List.find?_some (p := fun y : Instr × State => usesLsu y.1) hx
        exact h.eq_of_place ho hu (List.mem_of_find?_eq_some hx) fun j k hj hk => h.legal.unit j k _ _ hj hk lsu lsu'
      · rename_i hn
        exact absurd lsu (List.find?_eq_none.1 hn _ mem)
    · have results := h.results
      rw [single] at results
      obtain ⟨t, ts, -, hts, rfl⟩ := runOps_cons.1 results
      cases hts
      exact absurd rfl (many _)

/-- A component of the state that every operation but those `p` names leaves alone is at the start of the commit as before
the bundle, if `p` names none of its operations. -/
theorem commitBase_frame (h : Completed s pc ws is rs) {α : Type} {f : State → α} {p : Instr → Prop}
    (frame : ∀ i u e, exec i { s with ext := e } = .next u → u.signal = .done → ¬p i → f u = f s) (none : ∀ i ∈ is, ¬p i) :
    f (commitBase s rs) = f s := by
  obtain e | ⟨x, hx, e⟩ := commitBase_mem s rs <;> rw [e]
  obtain ⟨mem, y, hy⟩ := h.exec_of_mem hx
  exact frame x.1 x.2 y hy (h.done x hx) (none _ mem)

/-- What no operation of the bundle has for a destination is as before it. -/
theorem commitAll_frame (h : Completed s pc ws is rs) {α : Type} {f : State → α} {p : Instr → Prop} [DecidablePred p]
    (law : ∀ i t acc, f (copyDests i t acc) = if p i then f t else f acc)
    (frame : ∀ i u e, exec i { s with ext := e } = .next u → u.signal = .done → ¬p i → f u = f s) (none : ∀ i ∈ is, ¬p i) :
    f (commitAll s rs) = f s :=
  foldl_copyDests_eq law (fun _ hx hp => absurd hp (none _ (h.exec_of_mem hx).1)) (.inl (h.commitBase_frame frame none))

/-- A destination takes what its operation computes on the state before the bundle. -/
theorem commitAll_dest (h : Completed s pc ws is rs) {α : Type} {f : State → α} {p : Instr → Prop} [DecidablePred p]
    (law : ∀ i t acc, f (copyDests i t acc) = if p i then f t else f acc) {o : Instr × Option Instr}
    (ho : o ∈ operations pc is) {u : State} (hu : runOp s o = .next u) (hp : p o.1)
    (only : ∀ (j k : Nat) (y : Instr), is[j]? = some o.1 → is[k]? = some y → p y → j = k) : f (commitAll s rs) = f u :=
  foldl_copyDests_eq law
    (fun _ hx hx' => congrArg f (h.eq_of_place ho hu hx fun j k hj hk => only j k _ hj hk hx'))
    (.inr ⟨_, (mem_runOps h.results (o.1, u)).2 ⟨o, ho, rfl, hu⟩, hp⟩)

theorem r_commitAll (h : Completed s pc ws is rs) {o : Instr × Option Instr} (ho : o ∈ operations pc is) {u : State}
    (hu : runOp s o = .next u) {r : GReg} (hr : destG o.1 = some r) : (commitAll s rs).r r = u.r r := by
  by_cases h0 : r = 0#6
  · subst h0; rfl
  · exact h.commitAll_dest (f := (·.r r)) (p := (destG · = some r)) (r_copyDests r) ho hu hr
      fun j k y hj hk hy => h.legal.dests j k _ y hj hk (.inl ⟨r, h0, hr, hy⟩)

theorem b_commitAll (h : Completed s pc ws is rs) {o : Instr × Option Instr} (ho : o ∈ operations pc is) {u : State}
    (hu : runOp s o = .next u) {c : BReg} (hc : destB o.1 = some c) : (commitAll s rs).b c = u.b c :=
  h.commitAll_dest (f := (·.b c)) (p := (destB · = some c)) (b_copyDests c) ho hu hc
    fun j k y hj hk hy => h.legal.dests j k _ y hj hk (.inr ⟨c, hc, hy⟩)

/-- A control transfer is the first syllable (30_encoding.md R314). -/
theorem first_of_changesPc (h : Legal pc ws is) {k : Nat} {i : Instr} (hk : is[k]? = some i) (hi : changesPc i = true) :
    k = 0 := by
  refine (h.places k i hk).first ?_
  unfold changesPc at hi
  split at hi
  · exact .inl ‹_›
  · exact .inr (.inr ‹_›)
  · cases hi

theorem nextPc_commitAll (h : Completed s pc ws is rs) {o : Instr × Option Instr} (ho : o ∈ operations pc is) {u : State}
    (hu : runOp s o = .next u) (hp : changesPc o.1 = true) : (commitAll s rs).nextPc = u.nextPc :=
  h.commitAll_dest (f := (·.nextPc)) (p := (changesPc · = true)) nextPc_copyDests ho hu hp
    fun _ _ _ hj hk hy => (first_of_changesPc h.legal hj hp).trans (first_of_changesPc h.legal hk hy).symm

/-- Everything but registers and NEXT_PC is what the operation that may change it makes it. -/
theorem commitAll_base (h : Completed s pc ws is rs) {o : Instr × Option Instr} (ho : o ∈ operations pc is) {u : State}
    (hu : runOp s o = .next u) (base : usesLsu o.1 = true ∨ operations pc is = [o]) : { commitAll s rs with
      gpr := u.gpr, br := u.br, slrValid := u.slrValid, ext := u.ext, nextPc := u.nextPc } = u := by
  obtain ⟨g, b, v, p, e⟩ := foldl_copyDests_changes rs (commitBase s rs)
  unfold commitAll
  rw [e, h.commitBase_eq ho hu base]

/-- Where nothing uses the load/store unit and nothing is `prgins`, only registers, NEXT_PC and idle mode change. -/
theorem commitAll_registers (h : Completed s pc ws is rs) (quiet : ∀ i ∈ is, usesLsu i = false ∧ i ≠ .prgins) :
    ∃ g b v x p c k, commitAll s rs = { s with
      gpr := g, br := b, slrValid := v, ext := x, nextPc := p, coreIdle := c, pm := { s.pm with idle := k } } := by
  obtain ⟨g, b, v, p, e⟩ := foldl_copyDests_changes rs (commitBase s rs)
  unfold commitAll
  rw [e]
  obtain eb | ⟨x, hx, eb⟩ := commitBase_mem s rs
  · rw [eb]
    exact ⟨_, _, _, _, _, _, _, rfl⟩
  · obtain ⟨mem, y, hy⟩ := h.exec_of_mem hx
    obtain ⟨lsu, prgins⟩ := quiet _ mem
    obtain ⟨_, _, _, x', _, c, k, ex⟩ := (exec_effect hy).changes_of_not_lsu (h.done x hx) lsu prgins
    rw [eb, ex]
    exact ⟨g, b, v, x', p, c, k, rfl⟩

end Completed

/-- Settles O47: the operations' results on the state before the bundle are put together by `commitAll`, which takes each
destination from the one operation that has it and the rest from the one that may change it. -/
theorem operationsOfABundleCommitTogether : Obligations.OperationsOfABundleCommitTogether := by
  intro s ws is _ legal completes
  obtain ⟨rs, results⟩ := runOps_exists fun o ho => (completes o ho).imp fun _ h => h.1
  have done : ∀ x ∈ rs, x.2.signal = .done := by
    intro x hx
    obtain ⟨o, ho, -, hr⟩ := (mem_runOps results x).1 hx
    obtain ⟨u, hu, signal⟩ := completes o ho
    exact next_inj (hu.symm.trans hr) ▸ signal
  have h : Completed (s.withNextPc ws.length) s.pc ws is rs := ⟨legal, results, done⟩
  refine ⟨commitAll (s.withNextPc ws.length) rs, ?_, fun o ho u hu => ⟨fun r => h.r_commitAll ho hu,
    fun c => h.b_commitAll ho hu, h.nextPc_commitAll ho hu, h.commitAll_base ho hu⟩, fun r none => ?_, fun c none => ?_,
    fun none => ?_, fun quiet => ?_⟩
  · unfold evalWords
    rw [legalBundle_of_legal legal]
    dsimp only
    rw [results]
    dsimp only
    rw [outcomeOf_of_done _ _ _ done]
  · exact h.commitAll_frame (f := (·.r r)) (r_copyDests r) (fun i u e he _ hn => (exec_frame he).general r hn) none
  · exact h.commitAll_frame (f := (·.b c)) (b_copyDests c) (fun i u e he _ hn => (exec_frame he).branch c hn) none
  · exact h.commitAll_frame (f := (·.nextPc)) nextPc_copyDests
      (fun i u e he hd hn => (exec_frame he).nextPc hd (Bool.eq_false_iff.2 hn)) fun i hi => Bool.eq_false_iff.1 (none i hi)
  · obtain ⟨g, b, v, x, p, c, k, e⟩ := h.commitAll_registers quiet
    rw [e]
    rfl

/-! ## A bundle of one operation -/

theorem writeR_self {s : State} {r : GReg} (h : r = 63#6 → s.slrValid = true) : s.writeR r (s.r r) = s := by
  have gpr : setGpr s.gpr r (s.r r) = s.gpr := by
    unfold setGpr State.r
    split
    · rfl
    · exact Vector.set_getElem_self _
  have link : (s.slrValid || r == 63#6) = s.slrValid := by
    by_cases hr : r = 63#6
    · simp [hr, h hr]
    · simp [hr]
  unfold State.writeR
  rw [gpr, link]

theorem writeB_self (s : State) (c : BReg) : s.writeB c (s.b c) = s := by
  have br : setBr s.br c (s.b c) = s.br := Vector.set_getElem_self _
  unfold State.writeB
  rw [br]

/-- Copying an operation's destinations from its own result changes nothing. -/
theorem copyDests_self {i : Instr} {t : State} (h : destG i = some 63#6 → t.slrValid = true) : copyDests i t t = t := by
  have general : ∀ r, destG i = some r → t.writeR r (t.r r) = t := fun r hr => writeR_self fun e => h (e ▸ hr)
  unfold copyDests
  cases hg : destG i with
  | none => cases destB i <;> simp [writeB_self]
  | some r => cases destB i <;> simp [general r hg, writeB_self]

theorem commitAll_singleton {i : Instr} {s t : State} (h : exec i s = .next t) (done : t.signal = .done) (u : State) :
    commitAll u [(i, t)] = t := copyDests_self ((exec_frame h).link done)

theorem operations_singleton (pc : Word) {i : Instr} (h : isExtension i = false) : operations pc [i] = [(i, none)] := by
  simp [operations, syllables, h, Syllable.extension]

/-- A single operation that is no extension is a legal bundle, if a multiply stands at an odd word address. -/
theorem legal_singleton {pc w : Word} {i : Instr} (stop : w.getLsbD 31 = true) (decodes : decodeSyllable w = .ok i)
    (formed : i.wellFormed = true) (ext : isExtension i = false)
    (odd : kindOf i = .multiply → pc.getLsbD 2 = true) : Legal pc [w] [i] := by
  have only : ∀ {k : Nat} {j : Instr}, [i][k]? = some j → k = 0 ∧ j = i := by
    intro k j hk
    cases k with
    | zero => exact ⟨rfl, (Option.some.inj hk).symm⟩
    | succ k => simp at hk
  have left : kindOf i ≠ .extLeft := fun e => by simp [isExtension, e] at ext
  have right : kindOf i ≠ .extRight := fun e => by simp [isExtension, e] at ext
  refine
    { decodes := by simp [decodes]
      stop := ⟨w, rfl, stop⟩
      formed := by simpa using formed
      places := fun k j hk => ?_
      unit := fun j k _ _ hj hk _ _ => (only hj).1.trans (only hk).1.symm
      dests := fun j k _ _ hj hk _ => (only hj).1.trans (only hk).1.symm
      alone := fun _ _ _ => rfl }
  obtain ⟨rfl, rfl⟩ := only hk
  exact
    { first := fun _ => rfl
      odd := fun hm => by simpa [syllableAddr] using odd hm
      even := fun he => he.elim (absurd · left) (absurd · right)
      left := (absurd · left)
      right := (absurd · right)
      single := fun _ _ hk => absurd hk (by simp) }

/-- A syllable with the stop bit is a bundle (30_encoding.md R290). -/
theorem fetchBundle_singleton {s : State} {w : Word} (fetched : fetchSyllable s s.pc = .ok w) (stop : w.getLsbD 31 = true) :
    fetchBundle s = ⟨[w], none⟩ := by
  simp [fetchBundle, fetchFrom, fetched, stopBit, stop]

/-- How the result of the only operation of a bundle ends it. -/
def endOf (i : Instr) (w : Word) (t : State) : BundleEnd :=
  match t.signal with
  | .done => ⟨.committed [i], t⟩
  | .raised x => ⟨.trapped x, t⟩
  | .stalled => ⟨.waiting [w], t⟩

/-- A bundle of one operation runs `exec` of it with NEXT_PC one word on. -/
theorem evalWords_singleton {s t : State} {w : Word} {i : Instr} (legal : Legal s.pc [w] [i]) (ext : isExtension i = false)
    (he : exec i { s with nextPc := s.pc + 4#32 } = .next t) : evalWords s [w] = .next (endOf i w t) := by
  have results : runOps (s.withNextPc 1) (operations s.pc [i]) = .next [(i, t)] := by
    rw [operations_singleton s.pc ext]
    exact runOps_cons.2 ⟨t, [], he, rfl, rfl⟩
  unfold evalWords
  rw [legalBundle_of_legal legal]
  dsimp only [List.length_singleton]
  rw [results]
  cases signal : t.signal with
  | done =>
    have commit := commitAll_singleton he signal (s.withNextPc 1)
    simp [outcomeOf, pickTrap, endOf, signal, Signal.exc, commit]
  | raised x => simp [outcomeOf, pickTrap, endOf, signal, Signal.exc]
  | stalled => simp [outcomeOf, pickTrap, endOf, signal, Signal.exc]

/-! ## The step at a boundary where nothing is due -/

/-- What precedes a bundle changes the request for a debug interrupt and what the micro-TLBs may hold. -/
theorem noteAccesses_changes (s : State) : ∃ h, noteAccesses s = { s with tlb := { s.tlb with history := h } } := by
  obtain ⟨-, e⟩ | ⟨-, h, e⟩ := noteAccesses_cases s
  · exact ⟨s.tlb.history, e⟩
  · exact ⟨h, e⟩

theorem irqPending_sampleTrigger (s : State) : (sampleTrigger s).dsu.irqPending = true ↔ DebugRequested s := by
  simp [sampleTrigger, DebugRequested]

theorem debugPending_eq_false {s : State} (h : NoDebugDue s) : debugPending (sampleTrigger s) = false := by
  rw [← Bool.not_eq_true]
  intro hd
  simp only [debugPending, Bool.and_eq_true, Bool.not_eq_true', irqPending_sampleTrigger] at hd
  obtain hn | hn := h
  · exact hn hd.1
  · exact absurd hd.2 (by simpa [State.debugMode, sampleTrigger] using hn)

/-- Nothing is due before the bundle. -/
theorem quiet_of_undisturbed {s n : State} (h : Undisturbed s) (hn : n = noteAccesses (sampleTrigger s)) :
    debugPending n = false ∧ asyncRaises n = [] ∧ isIBreakHit n = false := by
  obtain ⟨x, e⟩ := noteAccesses_changes (sampleTrigger s)
  rw [e] at hn
  subst hn
  refine ⟨debugPending_eq_false h.debug, ?_, h.ibreak⟩
  change asyncRaises s = []
  have interrupt : interruptPending s = false := Bool.and_eq_false_iff.2 h.interrupt
  simp [asyncRaises, interrupt, h.bus]

/-- Waking a core that is awake. -/
theorem eq_of_awake {s : State} (h : s.coreIdle = false) : { s with coreIdle := false } = s := by
  rw [← h]

/-- At such a boundary the step of a bundle is its evaluation and its end. -/
theorem step_of_undisturbed {s n : State} (h : Undisturbed s) (hn : n = noteAccesses (sampleTrigger s)) {ws : List Word}
    (fetched : fetchBundle n = ⟨ws, none⟩) {e : BundleEnd} (he : evalWords n ws = .next e) :
    step s = .next (envTick (finish n e)) := by
  obtain ⟨debug, async, ibreak⟩ := quiet_of_undisturbed h hn
  have begun : noteAccesses { sampleTrigger s with coreIdle := false } = n := by
    rw [eq_of_awake (s := sampleTrigger s) h.boundary.awake, hn]
  have running : n.waiting = none := by
    obtain ⟨x, e⟩ := noteAccesses_changes (sampleTrigger s)
    rw [hn, e]
    exact h.boundary.running
  have bundle : evalBundle [] n = .next e := by
    simp [evalBundle, fetchRaises, fetched, ibreak, pickRaise, he]
  have boundary : boundaryStep n = .next (finish n e) := by
    simp [boundaryStep, debug, async, bundle]
  have awake : (sampleTrigger s).coreIdle = false := h.boundary.awake
  have core : coreStep s = .next (finish n e) := by
    simp [coreStep, awake, begun, running, boundary]
  simp [step, runStep, core]

/-- Without performance monitoring the end of a committed bundle. -/
theorem finish_committed {s : State} (stopped : s.pm.enb = false) (t : State) (is : List Instr) :
    finish s ⟨.committed is, t⟩ = { (if refetches s is then refetch s is (tickHazards t) else tickHazards t) with
      pc := t.nextPc, ext := none, signal := .done, cregStored := none, waiting := none, free := t.free + 1 } := by
  have count : countEvents s (.committed is) t = t := by simp [countEvents, stopped]
  have settle : settleBundle s (.committed is) t =
      if refetches s is then refetch s is (tickHazards t) else tickHazards t := rfl
  obtain ⟨h, xs, a, b, c, d, e⟩ := settleBundle_changes s (.committed is) t
  unfold finish
  dsimp only
  rw [count, ← settle, e]
  rfl

/-- Settles O52: the bundle is the one syllable, legal alone, and `exec` of its operation is what it comes to. -/
theorem stepRunsTheDecodedInstruction : Obligations.StepRunsTheDecodedInstruction := by
  refine ⟨fun s n t w i undisturbed hn fetched stop decodes formed ext odd he => ?_, fun s => ⟨?_, fun off => ?_, rfl,
    irqPending_sampleTrigger s⟩, fun s t is stopped => finish_committed stopped t is⟩
  · have result := evalWords_singleton (legal_singleton stop decodes formed ext odd) ext he
    have run := step_of_undisturbed undisturbed hn (fetchBundle_singleton fetched stop) result
    refine ⟨fun signal => ?_, fun x signal => ?_, fun signal => ?_⟩ <;> simpa only [endOf, signal] using run
  · obtain ⟨x, e⟩ := noteAccesses_changes s
    rw [e]
  · obtain ⟨-, e⟩ | ⟨on, -⟩ := noteAccesses_cases s
    · exact e
    · exact absurd off (by simpa [State.tlbEnable] using on)

end Sys2Proof.Machine
end

section
/-! PROOF. Loads and stores, the rules their obligations share: what each opcode calls, when an access passes its checks
(20_memory.md R147 to R161) and what trap entry leaves (60_exceptions.md R514). -/

namespace Sys2Proof.Machine

open Sys2Proof.Rules

/-! ## Taking an exception -/

/-- Trap entry for an exception that reports its value in EXADDRESS. -/
theorem raises_trapEntry {r : Raise} (address : exceptAddress r.exc r.value = r.value) (s : State) :
    Raises r.exc r.value s (trapEntry r s) :=
  ⟨rfl, rfl, address, rfl, rfl, rfl, rfl, rfl, rfl⟩

/-- The same without a TLB exception. -/
theorem raisesPlain_trapEntry {x : Exc} {v : Word} (address : exceptAddress x v = v) (s : State) :
    RaisesPlain x v s (trapEntry (.at x v) s) :=
  ⟨raises_trapEntry (r := .at x v) address s, rfl⟩

/-! ## The checks -/

theorem isDBreakHit_iff {s : State} {a : Word} : isDBreakHit s a = true ↔ DataBreak s a := by
  simp [isDBreakHit, State.dbreakEnable, DataBreak]

/-- Control register space is the last 64 KB of addresses (20_memory.md R147). -/
theorem isCRegSpace_iff {a : Word} : isCRegSpace a = true ↔ InCRegSpace a := by
  have := a.isLt
  simp only [isCRegSpace, InCRegSpace, beq_iff_eq, ← BitVec.toNat_inj, BitVec.extractLsb'_toNat,
    Nat.shiftRight_eq_div_pow, BitVec.toNat_ofNat]
  omega

theorem isCRegSpace_eq_false {a : Word} (h : ¬InCRegSpace a) : isCRegSpace a = false :=
  Bool.eq_false_iff.2 fun hc => h (isCRegSpace_iff.1 hc)

theorem misaligned_iff {w : Width} {a : Word} : misaligned w a = true ↔ a.toNat % w.bytes ≠ 0 := by
  simp [misaligned]

theorem misaligned_eq_false {w : Width} {a : Word} (h : a.toNat % w.bytes = 0) : misaligned w a = false :=
  Bool.eq_false_iff.2 fun hm => misaligned_iff.1 hm h

section
variable {w : Width} {a : Word} {s : State}

theorem readCheck_of_misaligned (h : a.toNat % w.bytes ≠ 0) : readCheck w a s = some (.at .misalignedTrap a) := by
  simp [readCheck, misaligned_iff.2 h]

theorem readCheck_of_notTranslated (aligned : a.toNat % w.bytes = 0) (h : NotTranslated readViolation s a) :
    readCheck w a s = some (raiseRead s a) := by
  obtain h | h | h := h <;> simp [readCheck, misaligned_eq_false aligned, h]

theorem readCheck_of_passes (h : ReadPasses s w.bytes a) : readCheck w a s = none := by
  simp [readCheck, misaligned_eq_false h.aligned, h.mapped, h.single, h.allowed]

theorem writeCheck_of_misaligned (h : a.toNat % w.bytes ≠ 0) : writeCheck w a s = some (.at .misalignedTrap a) := by
  simp [writeCheck, misaligned_iff.2 h]

theorem writeCheck_of_notTranslated (aligned : a.toNat % w.bytes = 0) (h : NotTranslated writeViolation s a) :
    writeCheck w a s = some (raiseWrite s a) := by
  obtain h | h | h := h <;> simp [writeCheck, misaligned_eq_false aligned, h]

theorem writeCheck_of_passes (h : WritePasses s w.bytes a) : writeCheck w a s = none := by
  simp [writeCheck, misaligned_eq_false h.aligned, h.mapped, h.single, h.allowed]

theorem disReadCheck_of_misaligned (h : a.toNat % w.bytes ≠ 0) (trap : s.specMalignTrap = true) :
    disReadCheck w a s = some (.at .misalignedTrap a) := by
  simp [disReadCheck, misaligned_iff.2 h, trap]

theorem disReadCheck_of_notTranslated (aligned : a.toNat % w.bytes = 0 ∨ s.specMalignTrap = false)
    (h : multiMapping s a = true ∨ (noTranslation s a = true ∧ s.tlbDynamic = true)) :
    disReadCheck w a s = some (raiseSpec s a) := by
  have admitted : (misaligned w a && s.specMalignTrap) = false := by
    obtain e | e := aligned <;> simp [e, misaligned]
  obtain h | h := h <;> simp [disReadCheck, admitted, h]

theorem disReadCheck_of_passes (h : ReadPasses s w.bytes a) : disReadCheck w a s = none := by
  simp [disReadCheck, misaligned_eq_false h.aligned, h.mapped, h.single]

theorem dismissed_of_passes (h : ReadPasses s w.bytes a) : dismissed w a s = false := by
  simp [dismissed, misaligned_eq_false h.aligned, h.mapped, h.allowed]

end

/-! ## The three shared operations, case by case -/

section
variable {w : Width} {f : Word → Word} {d b a : GReg} {k : Imm9} {s : State}

theorem loadOp_of_break (h : DataBreak s (s.imm k + s.r a)) :
    loadOp w f d a k s = raised (.at .dbreak (s.imm k + s.r a)) s := by
  simp [loadOp, ea_eq_add, isDBreakHit_iff.2 h]

theorem loadOp_of_cregSpace (hb : ¬DataBreak s (s.imm k + s.r a)) (hc : InCRegSpace (s.imm k + s.r a)) :
    loadOp w f d a k s = if w = .word then cregLoad (s.imm k + s.r a) d s
      else raised (.at .cregAccessViolation (s.imm k + s.r a)) s := by
  simp [loadOp, ea_eq_add, isDBreakHit_eq_false hb, isCRegSpace_iff.2 hc]

theorem loadOp_of_refused (hb : ¬DataBreak s (s.imm k + s.r a)) (hc : ¬InCRegSpace (s.imm k + s.r a)) {e : Raise}
    (he : readCheck w (s.imm k + s.r a) s = some e) : loadOp w f d a k s = raised e s := by
  simp [loadOp, ea_eq_add, isDBreakHit_eq_false hb, isCRegSpace_eq_false hc, he]

theorem loadOp_of_passes (h : ReadPasses s w.bytes (s.imm k + s.r a)) :
    loadOp w f d a k s = .next (dataRead w f (s.imm k + s.r a) d s) := by
  simp [loadOp, ea_eq_add, isDBreakHit_eq_false h.noBreak, isCRegSpace_eq_false h.space, readCheck_of_passes h]

theorem disLoadOp_of_break (h : DataBreak s (s.imm k + s.r a)) :
    disLoadOp w f d a k s = raised (.at .dbreak (s.imm k + s.r a)) s := by
  simp [disLoadOp, ea_eq_add, isDBreakHit_iff.2 h]

theorem disLoadOp_of_refused (hb : ¬DataBreak s (s.imm k + s.r a)) (hc : ¬InCRegSpace (s.imm k + s.r a)) {e : Raise}
    (he : disReadCheck w (s.imm k + s.r a) s = some e) : disLoadOp w f d a k s = raised e s := by
  simp [disLoadOp, ea_eq_add, isDBreakHit_eq_false hb, isCRegSpace_eq_false hc, he]

theorem disLoadOp_of_passes (h : ReadPasses s w.bytes (s.imm k + s.r a)) :
    disLoadOp w f d a k s = .next (disRead w f (s.imm k + s.r a) d s) := by
  simp [disLoadOp, ea_eq_add, isDBreakHit_eq_false h.noBreak, isCRegSpace_eq_false h.space, disReadCheck_of_passes h]

theorem storeOp_of_break (h : DataBreak s (s.imm k + s.r a)) :
    storeOp w b a k s = raised (.at .dbreak (s.imm k + s.r a)) s := by
  simp [storeOp, ea_eq_add, isDBreakHit_iff.2 h]

theorem storeOp_of_cregSpace (hb : ¬DataBreak s (s.imm k + s.r a)) (hc : InCRegSpace (s.imm k + s.r a)) :
    storeOp w b a k s = if w = .word then cregStore (s.imm k + s.r a) (s.r b) s
      else raised (.at .cregAccessViolation (s.imm k + s.r a)) s := by
  simp [storeOp, ea_eq_add, isDBreakHit_eq_false hb, isCRegSpace_iff.2 hc]

theorem storeOp_of_refused (hb : ¬DataBreak s (s.imm k + s.r a)) (hc : ¬InCRegSpace (s.imm k + s.r a)) {e : Raise}
    (he : writeCheck w (s.imm k + s.r a) s = some e) : storeOp w b a k s = raised e s := by
  simp [storeOp, ea_eq_add, isDBreakHit_eq_false hb, isCRegSpace_eq_false hc, he]

theorem storeOp_of_passes (h : WritePasses s w.bytes (s.imm k + s.r a)) :
    storeOp w b a k s = .next (busWrite s w (cachedAccess s (s.imm k + s.r a)) (translate s (s.imm k + s.r a)) (s.r b)) := by
  simp [storeOp, ea_eq_add, isDBreakHit_eq_false h.noBreak, isCRegSpace_eq_false h.space, writeCheck_of_passes h]

end

/-! ## Every load and store answers a next state -/

/-- An SDI access that cannot proceed answers a next state. -/
theorem sdiStall_next (i : Fin 4) (s : State) : ∃ t, sdiStall i s = .next t := by
  unfold sdiStall
  dsimp only
  split
  · exact ⟨_, rfl⟩
  · split <;> exact ⟨_, rfl⟩

theorem cregLoad_next (ea : Word) (d : GReg) (s : State) : ∃ t, cregLoad ea d s = .next t := by
  unfold cregLoad
  split
  · exact ⟨_, rfl⟩
  · rename_i i _
    unfold sdiDataLoad
    dsimp only
    split
    · split
      · exact sdiStall_next i s
      · exact ⟨_, rfl⟩
    · split
      · split
        · exact sdiStall_next i s
        · exact ⟨_, rfl⟩
      · exact ⟨_, rfl⟩
  · exact ⟨_, rfl⟩

theorem cregStore_next (ea v : Word) (s : State) : ∃ t, cregStore ea v s = .next t := by
  unfold cregStore
  split
  · exact ⟨_, rfl⟩
  · rename_i i _
    unfold sdiDataStore
    dsimp only
    split
    · split
      · exact sdiStall_next i s
      · split <;> exact ⟨_, rfl⟩
    · split
      · exact ⟨_, rfl⟩
      · split
        · exact sdiStall_next i s
        · exact ⟨_, rfl⟩
  · exact ⟨_, rfl⟩

/-- A normal load answers a next state. -/
theorem loadOp_next (w : Width) (f : Word → Word) (d a : GReg) (k : Imm9) (s : State) :
    ∃ t, loadOp w f d a k s = .next t := by
  unfold loadOp
  dsimp only
  split
  · exact ⟨_, rfl⟩
  · split
    · split
      · exact cregLoad_next _ d s
      · exact ⟨_, rfl⟩
    · split <;> exact ⟨_, rfl⟩

/-- A dismissible load answers a next state. -/
theorem disLoadOp_next (w : Width) (f : Word → Word) (d a : GReg) (k : Imm9) (s : State) :
    ∃ t, disLoadOp w f d a k s = .next t := by
  unfold disLoadOp
  dsimp only
  split
  · exact ⟨_, rfl⟩
  · split
    · exact ⟨_, rfl⟩
    · split <;> exact ⟨_, rfl⟩

/-- A store answers a next state. -/
theorem storeOp_next (w : Width) (b a : GReg) (k : Imm9) (s : State) : ∃ t, storeOp w b a k s = .next t := by
  unfold storeOp
  dsimp only
  split
  · exact ⟨_, rfl⟩
  · split
    · split
      · exact cregStore_next _ _ s
      · exact ⟨_, rfl⟩
    · split <;> exact ⟨_, rfl⟩

/-! ## What a load or store raises -/

theorem Width.eq_word_iff {w : Width} : w = .word ↔ w.bytes = 4 := by cases w <;> decide

/-- TLB_EXCAUSE tells a store from a load and a dismissible access from another (21_translation.md R258). -/
theorem excauseFor_flags (d : Side) (s : State) (bit : Nat) (write spec : Bool) (a : Word) :
    (excauseFor d s bit write spec a).write = write ∧ (excauseFor d s bit write spec a).spec = spec := by
  unfold excauseFor
  split
  · dsimp only
    split <;> exact ⟨rfl, rfl⟩
  · exact ⟨rfl, rfl⟩
  · exact ⟨rfl, rfl⟩

/-- A normal load raises in the order of 20_memory.md R150, R160, R161. -/
theorem trapRow_load {mk : GReg → GReg → Imm9 → Instr} {w : Width} {f : Word → Word}
    (h : ∀ d a k s, exec (mk d a k) s = loadOp w f d a k s) : TrapRow mk w.bytes false readViolation := by
  rintro d a k s _ rfl
  obtain ⟨t, ht⟩ := loadOp_next w f d a k s
  refine ⟨t, (h d a k s).trans ht, fun hb => ?_, fun hb hc hn => ?_, fun hb hc ha => ?_, fun hb hc ha hv => ?_⟩
  · obtain rfl := raised_eq ((loadOp_of_break hb).symm.trans ht)
    exact raisesPlain_trapEntry rfl s
  · rw [loadOp_of_cregSpace hb hc, if_neg (fun e => hn (Width.eq_word_iff.1 e))] at ht
    obtain rfl := raised_eq ht
    exact raisesPlain_trapEntry rfl s
  · obtain rfl := raised_eq ((loadOp_of_refused hb hc (readCheck_of_misaligned ha)).symm.trans ht)
    exact raisesPlain_trapEntry rfl s
  · obtain rfl := raised_eq ((loadOp_of_refused hb hc (readCheck_of_notTranslated ha hv)).symm.trans ht)
    exact ⟨raises_trapEntry rfl s, excauseFor_flags ..⟩

/-- A store raises in the order of 20_memory.md R154, R160, R161. -/
theorem trapRow_store {mk : GReg → GReg → Imm9 → Instr} {w : Width}
    (h : ∀ b a k s, exec (mk b a k) s = storeOp w b a k s) : TrapRow mk w.bytes true writeViolation := by
  rintro b a k s _ rfl
  obtain ⟨t, ht⟩ := storeOp_next w b a k s
  refine ⟨t, (h b a k s).trans ht, fun hb => ?_, fun hb hc hn => ?_, fun hb hc ha => ?_, fun hb hc ha hv => ?_⟩
  · obtain rfl := raised_eq ((storeOp_of_break hb).symm.trans ht)
    exact raisesPlain_trapEntry rfl s
  · rw [storeOp_of_cregSpace hb hc, if_neg (fun e => hn (Width.eq_word_iff.1 e))] at ht
    obtain rfl := raised_eq ht
    exact raisesPlain_trapEntry rfl s
  · obtain rfl := raised_eq ((storeOp_of_refused hb hc (writeCheck_of_misaligned ha)).symm.trans ht)
    exact raisesPlain_trapEntry rfl s
  · obtain rfl := raised_eq ((storeOp_of_refused hb hc (writeCheck_of_notTranslated ha hv)).symm.trans ht)
    exact ⟨raises_trapEntry rfl s, excauseFor_flags ..⟩

/-- A dismissible load raises on request, or for several pages (20_memory.md R151). -/
theorem dismissibleTrapRow {mk : GReg → GReg → Imm9 → Instr} {w : Width} {f : Word → Word}
    (h : ∀ d a k s, exec (mk d a k) s = disLoadOp w f d a k s) : DismissibleTrapRow mk w.bytes := by
  rintro d a k s _ rfl
  obtain ⟨t, ht⟩ := disLoadOp_next w f d a k s
  refine ⟨t, (h d a k s).trans ht, fun hb => ?_, fun hb hc ha trap => ?_, fun hb hc ha hv => ?_⟩
  · obtain rfl := raised_eq ((disLoadOp_of_break hb).symm.trans ht)
    exact raisesPlain_trapEntry rfl s
  · obtain rfl := raised_eq ((disLoadOp_of_refused hb hc (disReadCheck_of_misaligned ha trap)).symm.trans ht)
    exact raisesPlain_trapEntry rfl s
  · obtain rfl := raised_eq ((disLoadOp_of_refused hb hc (disReadCheck_of_notTranslated ha hv)).symm.trans ht)
    exact ⟨raises_trapEntry rfl s, excauseFor_flags ..⟩

/-- Settles O17: each opcode calls one of the three shared operations, whose checks come in the order of the rules. -/
theorem loadsAndStoresRaiseInOrder : Obligations.LoadsAndStoresRaiseInOrder :=
  ⟨trapRow_load (w := .word) fun _ _ _ _ => rfl, trapRow_load (w := .half) fun _ _ _ _ => rfl,
    trapRow_load (w := .half) fun _ _ _ _ => rfl, trapRow_load (w := .byte) fun _ _ _ _ => rfl,
    trapRow_load (w := .byte) fun _ _ _ _ => rfl, trapRow_store (w := .word) fun _ _ _ _ => rfl,
    trapRow_store (w := .half) fun _ _ _ _ => rfl, trapRow_store (w := .byte) fun _ _ _ _ => rfl,
    dismissibleTrapRow (w := .word) fun _ _ _ _ => rfl, dismissibleTrapRow (w := .half) fun _ _ _ _ => rfl,
    dismissibleTrapRow (w := .half) fun _ _ _ _ => rfl, dismissibleTrapRow (w := .byte) fun _ _ _ _ => rfl,
    dismissibleTrapRow (w := .byte) fun _ _ _ _ => rfl⟩

/-! ## Faults of control register space -/

/-- The registers of a block of the map stand eight bytes apart. -/
theorem exists_lookup_of_block {lo n off : Nat} (rows : ∀ k < n, (cregTable.lookup (lo + 8 * k)).isSome = true)
    (eighth : off % 8 = lo % 8) (first : lo ≤ off) (last : off < lo + 8 * n) :
    ∃ r, cregTable.lookup off = some r := by
  obtain ⟨k, rfl⟩ : ∃ k, off = lo + 8 * k := ⟨(off - lo) / 8, by omega⟩
  exact Option.isSome_iff_exists.1 (rows k (by omega))

/-- The map of 10_state.md R55 has a register at exactly the offsets the rules name. -/
theorem exists_lookup_iff (off : Nat) : (∃ r, cregTable.lookup off = some r) ↔ CRegOffset off := by
  constructor
  · rintro ⟨r, hr⟩
    have named : ∀ x ∈ cregTable, CRegOffset x.1 := by unfold CRegOffset; decide
    obtain ⟨l, m, e, -⟩ := List.lookup_eq_some_iff.1 hr
    exact named (off, r) (by simp [e])
  · rintro ⟨eighth, h | h | h | h | h | ⟨lo, hi, port⟩ | h⟩
    · exact exists_lookup_of_block (lo := 0xFF00) (n := 32) (by decide) eighth h.1 (by omega)
    · exact exists_lookup_of_block (lo := 0xFE70) (n := 3) (by decide) eighth h.1 (by omega)
    · exact exists_lookup_of_block (lo := 0xFE00) (n := 9) (by decide) eighth h.1 (by omega)
    · exact exists_lookup_of_block (lo := 0xFDC0) (n := 3) (by decide) eighth h.1 (by omega)
    · exact exists_lookup_of_block (lo := 0xF800) (n := 6) (by decide) eighth h.1 (by omega)
    · have ports : ∀ i < 4, ∀ k < 5, (cregTable.lookup (0xE000 + 0x400 * i + 8 * k)).isSome = true := by decide
      exact exists_lookup_of_block (lo := 0xE000 + 0x400 * ((off - 0xE000) / 0x400)) (n := 5)
        (ports _ (by omega)) (by omega) (by omega) (by omega)
    · exact exists_lookup_of_block (lo := 0xD000) (n := 8) (by decide) eighth h.1 (by omega)

theorem cregCheck_of_unmapped {s : State} {a : Word} {off : Nat} (ha : a.toNat = 0xFFFF0000 + off)
    (h : ¬CRegOffset off) : cregCheck s a = .error (.at .cregNoMapping a) := by
  have none : cregTable.lookup off = none :=
    Option.eq_none_iff_forall_ne_some.2 fun r hr => h ((exists_lookup_iff off).1 ⟨r, hr⟩)
  unfold cregCheck
  rw [cregAt_of_toNat ha, none]

/-- A user may use DATA and READY of an SDI port with PRIV 1 only (61 R630, 60_exceptions.md R563). -/
theorem userAccess_of_closed {s : State} {off : Nat} {r : CReg} (hr : cregTable.lookup off = some r)
    (closed : ¬OpenToUser s off) : userAccess s r = .na := by
  have data : ∀ x ∈ cregTable, ∀ p, (x.2 = .sdiData p → x.1 = 0xE000 + 0x400 * p.val) ∧
      (x.2 = .sdiReady p → x.1 = 0xE008 + 0x400 * p.val) := by decide
  obtain ⟨l, m, e, -⟩ := List.lookup_eq_some_iff.1 hr
  have place := data (off, r) (by simp [e])
  have shut : ∀ p : Fin 4, r = .sdiData p ∨ r = .sdiReady p → sdiUserOpen s p = false := fun p hp =>
    Bool.eq_false_iff.2 fun ho => closed ⟨p, by simpa [sdiUserOpen] using ho, hp.imp (place p).1 (place p).2⟩
  unfold userAccess
  split
  · simp [shut _ (.inl rfl)]
  · simp [shut _ (.inr rfl)]
  · rfl

theorem cregCheck_of_closed {s : State} {a : Word} {off : Nat} (ha : a.toNat = 0xFFFF0000 + off) (h : CRegOffset off)
    (user : s.psw.getLsbD 0 = true) (closed : ¬OpenToUser s off) :
    cregCheck s a = .error (.at .cregAccessViolation a) := by
  obtain ⟨r, hr⟩ := (exists_lookup_iff off).2 h
  have denied : accessCode s r = .na := by
    simp [accessCode, State.userMode, user, userAccess_of_closed hr closed]
  unfold cregCheck
  rw [cregAt_of_toNat ha, hr]
  exact if_pos denied

/-- A word access that control register space refuses raises what the check says. -/
theorem exec_of_cregCheck {x a : GReg} {i : Imm9} {s : State} (hb : ¬DataBreak s (s.imm i + s.r a))
    (hc : InCRegSpace (s.imm i + s.r a)) {e : Raise} (he : cregCheck s (s.imm i + s.r a) = .error e) :
    exec (.ldw x a i) s = .next (trapEntry e s) ∧ exec (.stw x a i) s = .next (trapEntry e s) := by
  constructor
  · change loadOp .word id x a i s = _
    rw [loadOp_of_cregSpace hb hc, if_pos rfl, cregLoad, he]
    rfl
  · change storeOp .word x a i s = _
    rw [storeOp_of_cregSpace hb hc, if_pos rfl, cregStore, he]
    rfl

/-- Settles O22: the check of the access finds no register in the map, or one that is closed to a user. -/
theorem controlRegisterAccessFaults : Obligations.ControlRegisterAccessFaults := by
  rintro x a i s _ off rfl hb ha
  have space : InCRegSpace (s.imm i + s.r a) := by unfold InCRegSpace; omega
  refine ⟨fun unmapped => ?_, fun mapped user closed => ?_⟩
  · obtain ⟨load, store⟩ := exec_of_cregCheck (x := x) hb space (cregCheck_of_unmapped ha unmapped)
    exact ⟨⟨_, load, raisesPlain_trapEntry rfl s⟩, _, store, raisesPlain_trapEntry rfl s⟩
  · obtain ⟨load, store⟩ := exec_of_cregCheck (x := x) hb space (cregCheck_of_closed ha mapped user closed)
    exact ⟨⟨_, load, raisesPlain_trapEntry rfl s⟩, _, store, raisesPlain_trapEntry rfl s⟩

end Sys2Proof.Machine
end

section
/-! PROOF. The bytes of memory that loads and stores of the three widths read and write, as numbers in either byte order
(20_memory.md R141, R145). -/

namespace Sys2Proof.Machine

open Sys2Proof.Rules

/-! ## Bytes after a store -/

/-- Writing a byte leaves every other byte, whatever the form of memory. -/
theorem memByte_memSet_ne (m : List Host.Cell) {a b : Nat} (v : Byte) (h : b ≠ a) :
    memByte (memSet m a v) b = memByte m b := by
  have consed : ∀ rest, memByte (memCons a v rest) b = memByte rest b := by
    intro rest
    unfold memCons
    split
    · rfl
    · rw [memByte, if_neg (fun e => h e.symm)]
  induction m with
  | nil => exact consed []
  | cons c rest ih =>
    unfold memSet
    split
    · exact consed (c :: rest)
    · split
      · rw [consed, memByte, if_neg (by omega)]
      · rw [memByte, memByte, ih]

theorem Width.covers_iff (w : Width) (pa : Word) (a : Nat) :
    w.covers pa a ↔ ∃ k < w.bytes, a = (pa + BitVec.ofNat 32 k).toNat := by
  have first : pa + BitVec.ofNat 32 0 = pa := BitVec.add_zero pa
  cases w <;>
    simp only [Width.covers, Width.bytes, Nat.exists_lt_succ_left, Nat.not_lt_zero, false_and, exists_false, or_false,
      Nat.zero_add, first]

/-- A store leaves every byte it does not cover, whatever the form of memory. -/
theorem memByte_memStore_ne (big : Bool) (m : List Host.Cell) (w : Width) (pa v : Word) {a : Nat}
    (h : ∀ k, k < w.bytes → a ≠ (pa + BitVec.ofNat 32 k).toNat) : memByte (memStore big m w pa v) a = memByte m a := by
  have h0 := h 0
  have h1 := h 1
  have h2 := h 2
  have h3 := h 3
  cases w <;> simp [Width.bytes] at h0 h1 h2 h3 <;> simp [memStore, memByte_memSet_ne, *]

/-- The bytes a store writes, the first being least or most significant by the byte order. -/
theorem memByte_memStore {m : List Host.Cell} (h : Memory.wf m = true) (big : Bool) (w : Width) (pa v : Word) {k : Nat}
    (hk : k < w.bytes) : memByte (memStore big m w pa v) (pa + BitVec.ofNat 32 k).toNat =
      valueByte v (if big then w.bytes - 1 - k else k) := by
  cases w with
  | byte =>
    obtain rfl : k = 0 := by simp [Width.bytes] at hk; omega
    simp [memStore, memByte_memSet h, Width.bytes]
  | half =>
    have h1 := memSet_wf h (valueByte v (if big then 1 else 0)) pa.isLt
    have apart := add_ne_self pa 0 1 (by omega) (by omega) (by omega)
    have first : pa + BitVec.ofNat 32 0 = pa := BitVec.add_zero pa
    rw [first] at apart
    obtain rfl | rfl : k = 0 ∨ k = 1 := by simp [Width.bytes] at hk; omega
    · rw [first, memStore, memByte_memSet h1, if_neg apart, memByte_memSet h, if_pos rfl]
      cases big <;> rfl
    · rw [memStore, memByte_memSet h1, if_pos rfl]
      cases big <;> rfl
  | word => exact memByte_memStore_word h big pa v hk

theorem valueByte_toNat (v : Word) (k : Nat) : (valueByte v k).toNat = v.toNat / 256 ^ k % 256 := by
  rw [valueByte, BitVec.extractLsb'_toNat, Nat.shiftRight_eq_div_pow, Nat.pow_mul]

/-! ## Numbers in memory -/

theorem add_succ (pa : Word) (k : Nat) : pa + BitVec.ofNat 32 (k + 1) = pa + 1#32 + BitVec.ofNat 32 k := by
  rw [BitVec.add_assoc, Nat.add_comm, BitVec.ofNat_add]

/-- Bytes in rising significance from byte `o` of a number on. -/
theorem littleNumber_eq {m : List Host.Cell} {v : Nat} {n o : Nat} {pa : Word}
    (h : ∀ k < n, (memByte m (pa + BitVec.ofNat 32 k).toNat).toNat = v / 256 ^ (o + k) % 256) :
    littleNumber m pa n = v / 256 ^ o % 256 ^ n := by
  induction n generalizing pa o with
  | zero => simp [littleNumber, Nat.mod_one]
  | succ n ih =>
    have first : (memByte m pa.toNat).toNat = v / 256 ^ o % 256 := by simpa using h 0 (by omega)
    have rest := ih (pa := pa + 1#32) (o := o + 1) fun k hk => by
      rw [← add_succ, h (k + 1) (by omega), Nat.add_right_comm, Nat.add_assoc]
    rw [littleNumber, first, rest, Nat.pow_succ' (m := 256) (n := n), Nat.mod_mul, Nat.pow_succ, Nat.div_div_eq_div_mul]

/-- Bytes in falling significance down to byte `o` of a number. -/
theorem bigNumber_eq {m : List Host.Cell} {v : Nat} {n o : Nat} {pa : Word}
    (h : ∀ k < n, (memByte m (pa + BitVec.ofNat 32 k).toNat).toNat = v / 256 ^ (o + (n - 1 - k)) % 256) :
    bigNumber m pa n = v / 256 ^ o % 256 ^ n := by
  induction n generalizing pa with
  | zero => simp [bigNumber, Nat.mod_one]
  | succ n ih =>
    have first : (memByte m pa.toNat).toNat = v / 256 ^ (o + n) % 256 := by simpa using h 0 (by omega)
    have rest := ih (pa := pa + 1#32) fun k hk => by
      rw [← add_succ, h (k + 1) (by omega)]
      congr 3
      omega
    rw [bigNumber, first, rest, Nat.mod_pow_succ, Nat.div_div_eq_div_mul, Nat.pow_add, Nat.add_comm]

/-- The `n` bytes at place `j` inside the bytes a store of a value has written. -/
theorem memNumber_memStore {m : List Host.Cell} (wf : Memory.wf m = true) (big : Bool) (w : Width) (pa v : Word)
    {j n : Nat} (inside : j + n ≤ w.bytes) :
    memNumber big (memStore big m w pa v) (pa + BitVec.ofNat 32 j) n =
      v.toNat / 256 ^ (if big then w.bytes - j - n else j) % 256 ^ n := by
  have byte : ∀ k < n, (memByte (memStore big m w pa v) (pa + BitVec.ofNat 32 j + BitVec.ofNat 32 k).toNat).toNat =
      v.toNat / 256 ^ (if big then w.bytes - 1 - (j + k) else j + k) % 256 := fun k hk => by
    rw [BitVec.add_assoc, ← BitVec.ofNat_add, memByte_memStore wf big w pa v (by omega), valueByte_toNat]
  cases big with
  | false => exact littleNumber_eq byte
  | true =>
    refine bigNumber_eq fun k hk => (byte k hk).trans ?_
    rw [if_pos rfl, if_pos rfl, show w.bytes - 1 - (j + k) = w.bytes - j - n + (n - 1 - k) by omega]

/-! ## What a load gives -/

/-- A load's value is the number its bytes make. -/
theorem memLoad_toNat (big : Bool) (m : List Host.Cell) (w : Width) (pa : Word) :
    (memLoad big m w pa).toNat = memNumber big m pa w.bytes := by
  have second : pa + 1#32 + 1#32 = pa + 2#32 := by bv_omega
  have third : pa + 2#32 + 1#32 = pa + 3#32 := by bv_omega
  cases w <;> cases big <;>
    simp only [memLoad, memNumber, Width.bytes, bigNumber, littleNumber, memAt, toNat_append_eq, second, third,
      BitVec.toNat_zero, if_true, Bool.false_eq_true, if_false] <;> ring

theorem memLoad_eq_loadedWord (big : Bool) (m : List Host.Cell) (w : Width) (pa : Word) :
    memLoad big m w pa = loadedWord false w.bytes (memNumber big m pa w.bytes) :=
  eq_ofNat_of_toNat (memLoad_toNat big m w pa)

theorem extendHalf_eq (v : Word) : extendHalf v = loadedWord true 2 v.toNat := by
  rw [loadedWord, if_pos rfl, BitVec.ofNat_toNat]
  rfl

theorem extendByte_eq (v : Word) : extendByte v = loadedWord true 1 v.toNat := by
  rw [loadedWord, if_pos rfl, BitVec.ofNat_toNat]
  rfl

/-! ## Which operation an opcode calls -/

/-- A normal load is the shared load of its width, and extends what it reads as its row says (20_memory.md R146). -/
theorem exec_of_isNormalLoad {i : Instr} {n : Nat} {signed : Bool} {d a : GReg} {k : Imm9}
    (h : IsNormalLoad i n signed d a k) : ∃ w f, w.bytes = n ∧ (∀ s, exec i s = loadOp w f d a k s) ∧
      ∀ big m pa, f (memLoad big m w pa) = loadedWord signed n (memNumber big m pa n) := by
  simp only [IsNormalLoad, List.mem_cons, Prod.mk.injEq, List.not_mem_nil, or_false] at h
  obtain ⟨rfl, rfl, rfl⟩ | ⟨rfl, rfl, rfl⟩ | ⟨rfl, rfl, rfl⟩ | ⟨rfl, rfl, rfl⟩ | ⟨rfl, rfl, rfl⟩ := h
  · exact ⟨.word, id, rfl, fun _ => rfl, fun big m pa => memLoad_eq_loadedWord big m .word pa⟩
  · exact ⟨.half, extendHalf, rfl, fun _ => rfl, fun big m pa => by rw [extendHalf_eq, memLoad_toNat]; rfl⟩
  · exact ⟨.half, id, rfl, fun _ => rfl, fun big m pa => memLoad_eq_loadedWord big m .half pa⟩
  · exact ⟨.byte, extendByte, rfl, fun _ => rfl, fun big m pa => by rw [extendByte_eq, memLoad_toNat]; rfl⟩
  · exact ⟨.byte, id, rfl, fun _ => rfl, fun big m pa => memLoad_eq_loadedWord big m .byte pa⟩

theorem exec_of_isDismissibleLoad {i : Instr} {n : Nat} {d a : GReg} {k : Imm9} (h : IsDismissibleLoad i n d a k) :
    ∃ w f, w.bytes = n ∧ ∀ s, exec i s = disLoadOp w f d a k s := by
  simp only [IsDismissibleLoad, List.mem_cons, Prod.mk.injEq, List.not_mem_nil, or_false] at h
  obtain ⟨rfl, rfl⟩ | ⟨rfl, rfl⟩ | ⟨rfl, rfl⟩ | ⟨rfl, rfl⟩ | ⟨rfl, rfl⟩ := h
  · exact ⟨.word, id, rfl, fun _ => rfl⟩
  · exact ⟨.half, extendHalf, rfl, fun _ => rfl⟩
  · exact ⟨.half, id, rfl, fun _ => rfl⟩
  · exact ⟨.byte, extendByte, rfl, fun _ => rfl⟩
  · exact ⟨.byte, id, rfl, fun _ => rfl⟩

theorem exec_of_isStore {i : Instr} {n : Nat} {b a : GReg} {k : Imm9} (h : IsStore i n b a k) :
    ∃ w : Width, w.bytes = n ∧ ∀ s, exec i s = storeOp w b a k s := by
  simp only [IsStore, List.mem_cons, Prod.mk.injEq, List.not_mem_nil, or_false] at h
  obtain ⟨rfl, rfl⟩ | ⟨rfl, rfl⟩ | ⟨rfl, rfl⟩ := h
  · exact ⟨.word, rfl, fun _ => rfl⟩
  · exact ⟨.half, rfl, fun _ => rfl⟩
  · exact ⟨.byte, rfl, fun _ => rfl⟩

/-! ## Loads and stores of external memory -/

/-- What an access does to the records of stored words is all that distinguishes the states. -/
theorem sameButFetch_writeR_touchLine (g : StaleWord → Word → StaleWord) (cached : Bool) (pa : Word) (s : State)
    (d : GReg) (v : Word) : SameButFetch (s.writeR d v) ((touchLine g cached pa s).writeR d v) := by
  obtain ⟨xs, e⟩ := touchLine_changes g cached pa s
  rw [e]
  rfl

/-- A load that passes its checks on memory that answers reads. -/
theorem exec_load_of_readable {i : Instr} {n : Nat} {signed : Bool} {d a : GReg} {k : Imm9} {s : State}
    (h : IsNormalLoad i n signed d a k) (passes : ReadPasses s n (s.imm k + s.r a))
    (readable : ReadableMemory s (translate s (s.imm k + s.r a))) :
    ∃ t, exec i s = .next t ∧ SameButFetch (s.writeR d (loadedWord signed n
      (memNumber s.cfg.bigEndian s.mem (translate s (s.imm k + s.r a)) n))) t := by
  obtain ⟨w, f, rfl, run, value⟩ := exec_of_isNormalLoad h
  refine ⟨_, (run s).trans (loadOp_of_passes passes), ?_⟩
  have read : busRead s w (cachedAccess s (s.imm k + s.r a)) (translate s (s.imm k + s.r a)) =
      some (memLoad s.cfg.bigEndian s.mem w (translate s (s.imm k + s.r a))) := by
    simp [busRead, readable.1, readable.2]
  obtain ⟨t, rfl, ⟨v, hv, e⟩ | ⟨none, -⟩⟩ := dataRead_cases w f (s.imm k + s.r a) d s
  · rw [e, ← value, Option.some.inj (read.symm.trans hv)]
    exact sameButFetch_writeR_touchLine ..
  · cases read.symm.trans none

/-- A store that passes its checks on memory that takes writes. -/
theorem exec_store_of_writable {i : Instr} {n : Nat} {b a : GReg} {k : Imm9} {s : State} (h : IsStore i n b a k)
    (passes : WritePasses s n (s.imm k + s.r a)) (writable : WritableMemory s (translate s (s.imm k + s.r a))) :
    ∃ w : Width, w.bytes = n ∧ exec i s = .next (storeMem
      (touchLine StaleWord.purgeLine (cachedAccess s (s.imm k + s.r a)) (translate s (s.imm k + s.r a)) s) w
      (cachedAccess s (s.imm k + s.r a)) (translate s (s.imm k + s.r a)) (s.r b)) := by
  obtain ⟨w, rfl, run⟩ := exec_of_isStore h
  obtain ⟨window, answers, rom⟩ := writable
  exact ⟨w, rfl, by simp [run, storeOp_of_passes passes, busWrite, window, answers, externalWrite, rom]⟩

/-- Settles O20: the store leaves the bytes of the register in memory, and the load puts those it covers together again. -/
theorem loadsAfterStoresSeeTheStoredBytes : Obligations.LoadsAfterStoresSeeTheStoredBytes := by
  rintro st ld m n j signed b a d c i k s t _ _ store load rfl rfl inside stores writable wf ht address loads place readable
  obtain ⟨w, rfl, run⟩ := exec_store_of_writable store stores writable
  obtain rfl := next_inj (run.symm.trans ht)
  rw [← address] at loads place
  rw [← place] at readable
  obtain ⟨u, hu, same⟩ := exec_load_of_readable load loads readable
  refine ⟨u, hu, ?_⟩
  have bytes := memNumber_memStore wf s.cfg.bigEndian w (translate s (s.imm i + s.r a)) (s.r b) inside
  rw [place] at same
  simpa [storeMem, bytes] using same

end Sys2Proof.Machine
end

section
/-! PROOF. Bus errors: loads and stores whose bus access fails at once or later, and instruction fetch (20_memory.md R152,
R190, 60_exceptions.md R522 to R524). -/

namespace Sys2Proof.Machine

open Sys2Proof.Rules

/-! ## Reads that fail -/

theorem busRead_of_fails {s : State} {w : Width} {cached : Bool} {pa : Word} (h : ReadFails s w.bytes cached pa) :
    busRead s w cached pa = none := by
  obtain ⟨window, fails⟩ | ⟨window, odd⟩ := h
  · simp [busRead, window, fails]
  · have refused : ¬(w = .word ∧ cached = false) := fun ⟨word, uncached⟩ =>
      odd.elim (fun hn => hn (Width.eq_word_iff.1 word)) (fun hc => by simp [uncached] at hc)
    unfold busRead
    split
    · exact if_neg refused
    · exact if_neg refused
    · exact if_neg refused
    · exact absurd ‹_› window

/-- A load that passes its checks and, if it is dismissible, hits the SCU reads. -/
theorem exec_reads {i : Instr} {n : Nat} {signed : Bool} {d a : GReg} {k : Imm9} {s : State}
    (h : IsNormalLoad i n signed d a k ∨
      (IsDismissibleLoad i n d a k ∧ scuHit s (translate s (s.imm k + s.r a)) = true))
    (passes : ReadPasses s n (s.imm k + s.r a)) :
    ∃ w f, w.bytes = n ∧ exec i s = .next (dataRead w f (s.imm k + s.r a) d s) := by
  obtain normal | ⟨dismissible, hit⟩ := h
  · obtain ⟨w, f, rfl, run, -⟩ := exec_of_isNormalLoad normal
    exact ⟨w, f, rfl, (run s).trans (loadOp_of_passes passes)⟩
  · obtain ⟨w, f, rfl, run⟩ := exec_of_isDismissibleLoad dismissible
    refine ⟨w, f, rfl, (run s).trans ?_⟩
    rw [disLoadOp_of_passes passes, disRead, dismissed_of_passes passes, hit]
    rfl

/-- A load whose read fails leaves a free value in its destination and the error pending. -/
theorem exec_load_of_fails {i : Instr} {n : Nat} {signed : Bool} {d a : GReg} {k : Imm9} {s : State}
    (h : IsNormalLoad i n signed d a k ∨
      (IsDismissibleLoad i n d a k ∧ scuHit s (translate s (s.imm k + s.r a)) = true))
    (passes : ReadPasses s n (s.imm k + s.r a))
    (fails : ReadFails s n (cachedAccess s (s.imm k + s.r a)) (translate s (s.imm k + s.r a))) :
    ∃ v t, exec i s = .next t ∧ SameButFetch { s.writeR d v with busErrorPending := true } t := by
  obtain ⟨w, f, rfl, run⟩ := exec_reads h passes
  refine ⟨Config.freeLoadValue s.free, _, run, ?_⟩
  obtain ⟨t, rfl, ⟨v, hv, -⟩ | ⟨-, e⟩⟩ := dataRead_cases w f (s.imm k + s.r a) d s
  · cases (busRead_of_fails fails).symm.trans hv
  · obtain ⟨xs, et⟩ := touchLine_changes StaleWord.readLine (cachedAccess s (s.imm k + s.r a))
      (translate s (s.imm k + s.r a)) s
    rw [e, et]
    rfl

/-! ## Writes that fail at once -/

/-- A write of external memory, which may fail. -/
theorem busWrite_of_memory {s : State} {w : Width} {cached : Bool} {pa v : Word} (window : windowOf s.cfg pa = .memory) :
    (busWriteError s.cfg pa = false ∧
      busWrite s w cached pa v = externalWrite (touchLine StaleWord.purgeLine cached pa s) w cached pa v) ∨
    (busWriteError s.cfg pa = true ∧
      (busWrite s w cached pa v = { touchLine StaleWord.purgeLine cached pa s with busErrorPending := true } ∨
       busWrite s w cached pa v =
        { externalWrite (touchLine StaleWord.purgeLine cached pa s) w cached pa v with busErrorPending := true })) := by
  obtain ⟨_, e, -⟩ | ⟨_, e, -⟩ | ⟨_, e, -⟩ | ⟨e, -⟩ | ⟨-, t, rfl, e⟩ := busWrite_cases s w cached pa v
  · cases window.symm.trans e
  · cases window.symm.trans e
  · cases window.symm.trans e
  · exact absurd window e
  · exact e

theorem exec_store_of_peripheral {i : Instr} {n : Nat} {b a : GReg} {k : Imm9} {s : State} (h : IsStore i n b a k)
    (passes : WritePasses s n (s.imm k + s.r a)) (window : windowOf s.cfg (translate s (s.imm k + s.r a)) ≠ .memory)
    (part : n ≠ 4) : exec i s = .next { s with busErrorPending := true } := by
  obtain ⟨w, rfl, run⟩ := exec_of_isStore h
  have part : w ≠ .word := fun e => part (Width.eq_word_iff.1 e)
  rw [run, storeOp_of_passes passes]
  obtain ⟨-, -, e, -⟩ | ⟨-, -, e, -⟩ | ⟨-, -, e, -⟩ | ⟨-, -, e⟩ | ⟨e, -⟩ :=
    busWrite_cases s w (cachedAccess s (s.imm k + s.r a)) (translate s (s.imm k + s.r a)) (s.r b)
  · exact absurd e part
  · exact absurd e part
  · exact absurd e part
  · rw [e]
  · exact absurd e window

theorem exec_store_of_fails {i : Instr} {n : Nat} {b a : GReg} {k : Imm9} {s : State} (h : IsStore i n b a k)
    (passes : WritePasses s n (s.imm k + s.r a)) (window : windowOf s.cfg (translate s (s.imm k + s.r a)) = .memory)
    (fails : busWriteError s.cfg (translate s (s.imm k + s.r a)) = true) :
    ∃ t, exec i s = .next t ∧ t.busErrorPending = true ∧
      { t with mem := s.mem, stale := s.stale, busErrorPending := s.busErrorPending } = s ∧
      ∀ y, (∀ j, j < n → y ≠ (translate s (s.imm k + s.r a) + BitVec.ofNat 32 j).toNat) →
        memByte t.mem y = memByte s.mem y := by
  obtain ⟨w, rfl, run⟩ := exec_of_isStore h
  refine ⟨_, (run s).trans (storeOp_of_passes passes), ?_⟩
  generalize translate s (s.imm k + s.r a) = pa at *
  generalize cachedAccess s (s.imm k + s.r a) = cached
  obtain ⟨e, -⟩ | ⟨-, e⟩ := busWrite_of_memory (w := w) (cached := cached) (v := s.r b) window
  · simp [fails] at e
  · obtain ⟨xs, et⟩ := touchLine_changes StaleWord.purgeLine cached pa s
    rw [et] at e
    obtain e | e := e
    · rw [e]
      exact ⟨rfl, rfl, fun _ _ => rfl⟩
    · obtain ⟨-, ew⟩ | ⟨-, ew⟩ := externalWrite_cases { s with stale := xs } w cached pa (s.r b) <;> rw [e, ew]
      · exact ⟨rfl, rfl, fun _ _ => rfl⟩
      · exact ⟨rfl, rfl, fun y hy => memByte_memStore_ne _ _ _ _ _ hy⟩

/-! ## Writes that fail later -/

/-- Translation keeps the place of an address on the smallest page (21_translation.md R251). -/
theorem translate_mod (s : State) (a : Word) : (translate s a).toNat % 2 ^ 13 = a.toNat % 2 ^ 13 := by
  have entry : ∀ e : TlbEntry, (entryPhys e a).toNat % 2 ^ 13 = a.toNat % 2 ^ 13 := by
    intro e
    unfold entryPhys
    split
    · rfl
    · rename_i k hk
      obtain rfl | rfl | rfl : k = 13 ∨ k = 22 ∨ k = 28 := by
        unfold pageBits at hk
        split at hk <;> simp_all
      all_goals
        rw [BitVec.toNat_ofNat, Nat.shiftLeft_eq]
        omega
  unfold translate
  split
  · exact entry _
  · rfl

theorem translate_aligned {s : State} {a : Word} (w : Width) (h : a.toNat % w.bytes = 0) :
    (translate s a).toNat % w.bytes = 0 := by
  have := translate_mod s a
  cases w <;> simp only [Width.bytes] at * <;> omega

theorem wordAddr_toNat (pa : Word) : (wordAddr pa).toNat = pa.toNat / 4 * 4 := by
  have shifted : wordAddr pa = (pa >>> 2) <<< 2 := by
    have mask : ∀ i < 32, (0xFFFFFFFC#32).getLsbD i = decide (2 ≤ i) := by decide
    apply BitVec.eq_of_getLsbD_eq
    intro i hi
    rw [wordAddr, BitVec.getLsbD_and, mask i hi, BitVec.getLsbD_shiftLeft, BitVec.getLsbD_ushiftRight]
    by_cases h : 2 ≤ i
    · simp [h, hi, show 2 + (i - 2) = i by omega, Nat.not_lt.2 h]
    · simp [h, Nat.lt_of_not_le h]
  have := pa.isLt
  rw [shifted, BitVec.toNat_shiftLeft, BitVec.toNat_ushiftRight, Nat.shiftLeft_eq, Nat.shiftRight_eq_div_pow]
  omega

theorem getLsbD_bytesOf (w : Width) (pa : Word) {i : Nat} (hi : i < 4) :
    (bytesOf w pa).getLsbD i = decide (pa.toNat % 4 ≤ i ∧ i < pa.toNat % 4 + w.bytes) := by
  have table : ∀ r < 4, ∀ i < 4, (BitVec.ofNat 4 (2 ^ w.bytes - 1) <<< r).getLsbD i =
      decide (r ≤ i ∧ i < r + w.bytes) := by cases w <;> decide
  exact table _ (Nat.mod_lt _ (by omega)) i hi

/-- The bytes of an aligned access lie in one word, at the places its record notes. -/
theorem exists_bytesOf {w : Width} {pa : Word} (aligned : pa.toNat % w.bytes = 0) {k : Nat} (hk : k < w.bytes) :
    ∃ i < 4, pa + BitVec.ofNat 32 k = wordAddr pa + BitVec.ofNat 32 i ∧ (bytesOf w pa).getLsbD i = true := by
  have inWord : pa.toNat % 4 + k < 4 := by cases w <;> simp only [Width.bytes] at * <;> omega
  refine ⟨pa.toNat % 4 + k, inWord, ?_, ?_⟩
  · apply BitVec.eq_of_toNat_eq
    rw [BitVec.toNat_add, BitVec.toNat_add, wordAddr_toNat, BitVec.toNat_ofNat, BitVec.toNat_ofNat]
    omega
  · rw [getLsbD_bytesOf w pa inWord]
    simpa using hk

/-- When the write of the latest store is lost, memory reads as before it (93 U6). -/
theorem memByte_undoStore_storeMem {s : State} (wf : Memory.wf s.mem = true) {w : Width} (cached : Bool) {pa : Word}
    (v : Word) (aligned : pa.toNat % w.bytes = 0) (y : Nat) :
    memByte (undoStore 0 (staleRecord (wordAt s pa) w cached pa) (storeMem s w cached pa v)).mem y =
      memByte s.mem y := by
  have wf' : Memory.wf (storeMem s w cached pa v).mem = true := memStore_wf wf _ _ _ _
  by_cases hy : Width.word.covers (wordAddr pa) y
  · obtain ⟨i, hi, rfl⟩ := (Width.covers_iff _ _ _).1 hy
    refine (memByte_undoStore wf' 0 (staleRecord (wordAt s pa) w cached pa) hi).trans ?_
    change (if (bytesOf w pa).getLsbD i then _ else memByte (memStore s.cfg.bigEndian s.mem w pa v) _) = _
    split
    · exact valueByte_memLoad_word _ _ _ hi
    · rename_i hb
      refine memByte_memStore_ne _ _ _ _ _ fun k hk e => ?_
      obtain ⟨j, hj, place, written⟩ := exists_bytesOf aligned hk
      rw [place] at e
      obtain rfl : i = j := Classical.not_not.1 fun hij => add_ne_self (wordAddr pa) i j hi hj hij e
      exact hb written
  · rw [memByte_undoStore_other wf' 0 (staleRecord (wordAt s pa) w cached pa) hy]
    refine memByte_memStore_ne _ _ _ _ _ fun k hk e => hy ?_
    obtain ⟨j, hj, place, -⟩ := exists_bytesOf aligned hk
    exact (Width.covers_iff _ _ _).2 ⟨j, hj, by rw [e, place]⟩

/-- A failure reported right after a store leaves memory as after it or as before it. -/
theorem lateWriteFails_storeMem {s : State} (wf : Memory.wf s.mem = true) {w : Width} (cached : Bool) {pa : Word}
    (v : Word) (aligned : pa.toNat % w.bytes = 0) :
    (lateWriteFails 0 (storeMem s w cached pa v)).busErrorPending = true ∧
      ((∀ y, memByte (lateWriteFails 0 (storeMem s w cached pa v)).mem y = memByte (storeMem s w cached pa v).mem y) ∨
       (∀ y, memByte (lateWriteFails 0 (storeMem s w cached pa v)).mem y = memByte s.mem y)) := by
  obtain e | ⟨x, hx, -, e⟩ := lateWriteFails_cases 0 (storeMem s w cached pa v)
  · rw [e]
    exact ⟨rfl, .inl fun _ => rfl⟩
  · obtain rfl : staleRecord (wordAt s pa) w cached pa = x := by simpa [storeMem] using hx
    rw [e]
    exact ⟨rfl, .inr fun y => memByte_undoStore_storeMem wf cached v aligned y⟩

/-- After a `sync` an uncached store is in memory and is not undone. -/
theorem lateWriteFails_of_synced {s u : State} {w : Width} {pa v : Word}
    (h : exec .sync (storeMem s w false pa v) = .next u) : lateWriteFails 0 u = { u with busErrorPending := true } := by
  obtain rfl := next_inj h
  obtain e | ⟨x, hx, early, -⟩ := lateWriteFails_cases 0
    { storeMem s w false pa v with stale := (storeMem s w false pa v).stale.map StaleWord.sync }
  · exact e
  · obtain rfl : (staleRecord (wordAt s pa) w false pa).sync = x := by simpa [storeMem] using hx
    exact absurd rfl early

/-! ## Fetches that fail -/

/-- The fetch of a syllable from failing memory or from a peripheral register (60_exceptions.md R522, 61 R583). -/
theorem fetchSyllable_of_fails {s : State} {va pa : Word} (translated : translateFetch s va = .ok pa)
    (h : (windowOf s.cfg pa = .memory ∧ busReadError s.cfg pa = true) ∨ (∃ off, windowOf s.cfg pa = .intc off) ∨
      ∃ off, windowOf s.cfg pa = .dsu off) : fetchSyllable s va = .error ⟨.stbusIcError, 0#32, none⟩ := by
  have none : fetchPhys s va pa = none := by
    obtain ⟨window, fails⟩ | ⟨off, window⟩ | ⟨off, window⟩ := h
    · simp [fetchPhys, window, fails]
    · simp [fetchPhys, window]
    · simp [fetchPhys, window]
  unfold fetchSyllable
  rw [translated]
  dsimp only
  rw [none]
  rfl

/-- An exception that goes before all others due is the one taken (60_exceptions.md R520). -/
theorem pickRaise_append_singleton {rs : List Raise} {r : Raise} (h : ∀ q ∈ rs, r.exc.number < q.exc.number) :
    pickRaise (rs ++ [r]) = some r := by
  induction rs with
  | nil => rfl
  | cons q rs ih =>
    obtain ⟨hq, h⟩ := List.forall_mem_cons.1 h
    simp [pickRaise, ih h, hq]

theorem evalBundle_of_pick {async : List Raise} {s : State} {r : Raise}
    (h : pickRaise (async ++ fetchRaises s (fetchBundle s)) = some r) :
    evalBundle async s = .next (trapEnd r (dropFailedLine (fetchBundle s) s)) := by
  unfold evalBundle
  rw [h]

/-- Whatever else is due, a bus error of the fetch is taken (60_exceptions.md R520 to R522). -/
theorem evalBundle_of_fetch_fails {s : State} (fails : (fetchBundle s).error = some ⟨.stbusIcError, 0#32, none⟩) :
    evalBundle (asyncRaises s) s =
      .next (trapEnd (.plain .stbusIcError) (dropFailedLine (fetchBundle s) s)) := by
  have others : ∀ q ∈ asyncRaises s ++ (if isIBreakHit s then [.plain .ibreak] else []),
      (Raise.plain .stbusIcError).exc.number < q.exc.number := by
    intro q hq
    obtain rfl | rfl | rfl : q = .plain .stbusDcError ∨ q = .plain .externInt ∨ q = .plain .ibreak := by
      simp only [asyncRaises, List.mem_append, List.mem_ite_nil_right, List.mem_singleton] at hq
      tauto
    all_goals decide
  have first := pickRaise_append_singleton others
  refine evalBundle_of_pick ?_
  unfold fetchRaises
  rw [fails, Option.toList_some, ← List.append_assoc]
  exact first

/-- A core at a boundary without a debug interrupt evaluates the bundle at PC. -/
theorem coreStep_of_boundary {s : State} (boundary : AtBoundary s) (debug : NoDebugDue s) {e : BundleEnd}
    (he : evalBundle (asyncRaises (noteAccesses (sampleTrigger s))) (noteAccesses (sampleTrigger s)) = .next e) :
    coreStep s = .next (finish (noteAccesses (sampleTrigger s)) e) := by
  obtain ⟨x, changed⟩ := noteAccesses_changes (sampleTrigger s)
  have running : (noteAccesses (sampleTrigger s)).waiting = none := by rw [changed]; exact boundary.running
  have quiet : debugPending (noteAccesses (sampleTrigger s)) = false := by
    rw [changed]
    exact debugPending_eq_false debug
  have awake : (sampleTrigger s).coreIdle = false := boundary.awake
  have step : boundaryStep (noteAccesses (sampleTrigger s)) = .next (finish (noteAccesses (sampleTrigger s)) e) := by
    simp [boundaryStep, quiet, he]
  simp [coreStep, awake, eq_of_awake awake, running, step]

/-! ## The end of a trap -/

/-- The end of a trap or a debug interrupt empties the pipeline (60_exceptions.md R517). -/
theorem finish_of_stopped (s t : State) {e : Ending} (h : (∃ x, e = .trapped x) ∨ e = .debug) :
    ∃ c, finish s ⟨e, t⟩ = { emptyPipeline t with
      pm := { t.pm with cnt := c }, pc := t.nextPc, ext := none, signal := .done, cregStored := none, waiting := none
      free := t.free + 1 } := by
  obtain ⟨c, hc⟩ := countEvents_changes s e t
  refine ⟨c, ?_⟩
  unfold finish
  obtain ⟨x, rfl⟩ | rfl := h
  all_goals
    dsimp only [settleBundle, Ending.waits]
    rw [hc]
    rfl

theorem finish_stale (s t : State) {e : Ending} (h : (∃ x, e = .trapped x) ∨ e = .debug) :
    (finish s ⟨e, t⟩).stale = staleKept (t.stale.map StaleWord.syncins) := by
  obtain ⟨c, ended⟩ := finish_of_stopped s t h
  rw [ended]
  rfl

/-- An invalidation that `syncins` has made effective. -/
theorem syncins_effective (x : StaleWord) : x.invalidated &&& ~~~x.syncins.clean = 0#4 := by
  ext i hi
  simp +contextual [StaleWord.syncins]

/-- A trap and a debug interrupt empty the pipeline and the instruction buffer. -/
theorem emptied_finish (s t : State) {e : Ending} (h : (∃ x, e = .trapped x) ∨ e = .debug) :
    Emptied (finish s ⟨e, t⟩) := by
  obtain ⟨c, ended⟩ := finish_of_stopped s t h
  rw [ended]
  refine ⟨rfl, rfl, rfl, rfl, fun x hx => ?_⟩
  obtain ⟨o, -, rfl⟩ := List.mem_map.1 (List.mem_of_mem_filter hx)
  exact syncins_effective o

/-- The end of a trap without a TLB exception, taken on a state that differs from `s` in what the micro-TLBs may hold and
in the records of stored words. -/
theorem trapped_finish {s : State} (rest : s.AtRest) {x : Exc} {v : Word} (address : exceptAddress x v = v) (n : State)
    (h : TlbHistory) (xs : List StaleWord) :
    Trapped x v s (finish n (trapEnd (.at x v) { s with tlb := { s.tlb with history := h }, stale := xs })) := by
  have emptied := emptied_finish n (trapEntry (.at x v) { s with tlb := { s.tlb with history := h }, stale := xs })
    (e := .trapped (Raise.at x v).exc) (.inl ⟨x, rfl⟩)
  obtain ⟨c, ended⟩ := finish_of_stopped n
    (trapEntry (.at x v) { s with tlb := { s.tlb with history := h }, stale := xs })
    (e := .trapped (Raise.at x v).exc) (.inl ⟨x, rfl⟩)
  have own : { s with ext := none, signal := .done, cregStored := none } = s := by
    rw [← rest.ext, ← rest.signal, ← rest.cregStored]
  have pending : (s.busErrorPending && x != .stbusDcError) = if x = .stbusDcError then false else s.busErrorPending := by
    by_cases hx : x = .stbusDcError <;> simp [hx]
  unfold trapEnd
  rw [ended] at emptied ⊢
  exact ⟨rfl, address, rfl, rfl, rfl, rfl, fun _ _ => rfl, rfl, pending, own, rfl, emptied⟩

/-! ## The line a failed fetch was to fill -/

/-- Nothing old is fetched where every record of the word is clean in the quadrant. -/
theorem staleValues_eq_nil {s : State} {va pa : Word}
    (h : ∀ x ∈ s.stale, x.addr = pa → x.clean &&& quadrantBit (va.extractLsb' 13 2) ≠ 0#4) : staleValues s va pa = [] := by
  unfold staleValues
  rw [List.map_eq_nil_iff, List.filter_eq_nil_iff]
  intro x hx hc
  rw [Bool.and_eq_true, beq_iff_eq, beq_iff_eq] at hc
  exact h x hx hc.1 hc.2

theorem quadrantBit_ne_zero (q : BitVec 2) : quadrantBit q ≠ 0#4 := by revert q; decide

/-- What `syncins` makes of an invalidated quadrant of a word in memory. -/
theorem clean_of_invalidateIn {x : StaleWord} (stage : x.stage = .inMemory) (q : BitVec 2) :
    (x.invalidateIn q).syncins.clean &&& quadrantBit q = quadrantBit q := by
  ext i hi
  simp +contextual [StaleWord.invalidateIn, StaleWord.syncins, stage]

theorem addr_invalidateLine (x : StaleWord) (va pa : Word) : (x.invalidateLine va pa).addr = x.addr := by
  unfold StaleWord.invalidateLine StaleWord.invalidateIn
  split
  · split <;> rfl
  · rfl

theorem dropFailedLine_of_fails {f : Fetched} {s : State} {va pa : Word}
    (fails : f.error = some ⟨.stbusIcError, 0#32, none⟩) (place : f.failedAt s = va)
    (translated : translateFetch s va = .ok pa) :
    dropFailedLine f s = { s with stale := s.stale.map (fun x => x.invalidateLine va pa) } := by
  unfold dropFailedLine
  rw [fails, place, translated]

/-- After the trap of a failed fetch no older value is fetched from the line, in the quadrant of the failing address. -/
theorem staleValues_after_failed_fetch {n t : State} {va pa va' pa' : Word}
    (after : t.stale = staleKept ((n.stale.map (fun x => x.invalidateLine va pa)).map StaleWord.syncins))
    (inMemory : ∀ x ∈ n.stale, x.addr.toNat / 64 = pa.toNat / 64 → x.stage = .inMemory)
    (line : pa'.toNat / 64 = pa.toNat / 64) (quadrant : va'.extractLsb' 13 2 = va.extractLsb' 13 2) :
    staleValues t va' pa' = [] := by
  refine staleValues_eq_nil fun x hx hp => ?_
  rw [after] at hx
  obtain ⟨y, hy, rfl⟩ := List.mem_map.1 (List.mem_of_mem_filter hx)
  obtain ⟨o, ho, rfl⟩ := List.mem_map.1 hy
  have place : o.addr = pa' := (addr_invalidateLine o va pa).symm.trans hp
  have same : o.addr.toNat / 64 = pa.toNat / 64 := by rw [place, line]
  have touched : o.invalidateLine va pa = o.invalidateIn (va.extractLsb' 13 2) := if_pos same
  rw [touched, quadrant, clean_of_invalidateIn (inMemory o ho same)]
  exact quadrantBit_ne_zero _

/-- The step of a core whose fetch meets a bus error takes STBUS_IC_ERROR and drops the line. -/
theorem coreStep_of_fetch_fails {s n : State} (hn : n = noteAccesses (sampleTrigger s)) (boundary : AtBoundary s)
    (debug : NoDebugDue s) (fails : (fetchBundle n).error = some ⟨.stbusIcError, 0#32, none⟩) :
    ∃ t, coreStep s = .next t ∧ Trapped .stbusIcError 0#32 (sampleTrigger s) t ∧
      t.stale = staleKept ((dropFailedLine (fetchBundle n) n).stale.map StaleWord.syncins) := by
  subst hn
  refine ⟨_, coreStep_of_boundary boundary debug (evalBundle_of_fetch_fails fails), ?_,
    finish_stale _ _ (.inl ⟨_, rfl⟩)⟩
  obtain ⟨x, changed⟩ := noteAccesses_changes (sampleTrigger s)
  have rest : (sampleTrigger s).AtRest := { boundary.rest with }
  obtain ⟨r, pa, -, -, -, dropped⟩ | dropped :=
    dropFailedLine_cases (fetchBundle (noteAccesses (sampleTrigger s))) (noteAccesses (sampleTrigger s))
  all_goals
    rw [dropped, changed]
    exact trapped_finish rest rfl _ x _

/-- Settles O21: by the cases of the bus accesses, of a late report and of the fetch. -/
theorem busErrorsAreReported : Obligations.BusErrorsAreReported := by
  refine ⟨?_, ?_, fun s va pa => fetchSyllable_of_fails, fun s boundary debug fails => ?_⟩
  · rintro i n x d a k s _ load rfl passes fails
    exact exec_load_of_fails load passes fails
  · rintro i n b a k s _ _ store rfl rfl passes
    refine ⟨exec_store_of_peripheral store passes, exec_store_of_fails store passes, fun t u writable wf ht => ?_⟩
    obtain ⟨w, rfl, run⟩ := exec_store_of_writable store passes writable
    obtain rfl := next_inj (run.symm.trans ht)
    have aligned := translate_aligned (s := s) w passes.aligned
    obtain ⟨xs, touched⟩ := touchLine_changes StaleWord.purgeLine (cachedAccess s (s.imm k + s.r a))
      (translate s (s.imm k + s.r a)) s
    refine ⟨?_, fun uncached hu => ?_⟩
    · rw [touched]
      exact lateWriteFails_storeMem (s := { s with stale := xs }) wf _ _ aligned
    · rw [uncached] at hu
      exact lateWriteFails_of_synced hu
  · obtain ⟨t, ht, trapped, after⟩ := coreStep_of_fetch_fails rfl boundary debug fails
    refine ⟨t, ht, trapped, fun va pa va' pa' failed translated inMemory line quadrant => ?_⟩
    obtain ⟨x, changed⟩ := noteAccesses_changes (sampleTrigger s)
    have place : (fetchBundle (noteAccesses (sampleTrigger s))).failedAt (noteAccesses (sampleTrigger s)) = va := by
      rw [failed, changed]
      rfl
    rw [dropFailedLine_of_fails fails place translated] at after
    refine staleValues_after_failed_fetch after ?_ line ?_
    · rw [changed]
      exact inMemory
    · rwa [extractLsb'_eq_shift, extractLsb'_eq_shift]

end Sys2Proof.Machine
end

section
/-! PROOF. Coherence: the sequences after which instruction fetch sees stored words and translation sees the UTLB as it
stands (20_memory.md R171, R179, R189, 21_translation.md R246, R260, 60_exceptions.md R517). -/

namespace Sys2Proof.Machine

open Sys2Proof.Rules

/-! ## How far the records of a line have come -/

/-- Every record of a stored word in the data cache line (32 bytes) of `pa` is at a stage that `p` admits. -/
def LineAt (p : StaleStage → Prop) (s : State) (pa : Word) : Prop :=
  ∀ x ∈ s.stale, x.addr.toNat / 32 = pa.toNat / 32 → p x.stage

theorem LineAt.congr {p : StaleStage → Prop} {s : State} {pa pa' : Word} (h : LineAt p s pa)
    (line : pa'.toNat / 32 = pa.toNat / 32) : LineAt p s pa' := fun x hx hl => h x hx (hl.trans line)

/-- A change of every record that moves those of the line on. -/
theorem lineAt_map {p q : StaleStage → Prop} {s t : State} {pa : Word} {f : StaleWord → StaleWord}
    (moved : t.stale = s.stale.map f) (addr : ∀ x, (f x).addr = x.addr) (before : LineAt p s pa)
    (step : ∀ x, x.addr.toNat / 32 = pa.toNat / 32 → p x.stage → q (f x).stage) : LineAt q t pa := by
  intro y hy line
  rw [moved] at hy
  obtain ⟨x, hx, rfl⟩ := List.mem_map.1 hy
  rw [addr] at line
  exact step x line (before x hx line)

theorem lineAt_any (s : State) (pa : Word) : LineAt (fun _ => True) s pa := fun _ _ _ => trivial

@[simp] theorem StaleWord.addr_purgeLine (x : StaleWord) (pa : Word) : (x.purgeLine pa).addr = x.addr := by
  unfold StaleWord.purgeLine; split <;> rfl

@[simp] theorem StaleWord.addr_readLine (x : StaleWord) (pa : Word) : (x.readLine pa).addr = x.addr := by
  unfold StaleWord.readLine; split <;> rfl

@[simp] theorem StaleWord.addr_sync (x : StaleWord) : x.sync.addr = x.addr := by unfold StaleWord.sync; split <;> rfl

@[simp] theorem StaleWord.addr_invalidateAll (x : StaleWord) : x.invalidateAll.addr = x.addr := by
  unfold StaleWord.invalidateAll; split <;> rfl

/-- A purge of the line takes the word out of the data cache (20_memory.md R182). -/
theorem StaleWord.stage_purgeLine {x : StaleWord} {pa : Word} (line : x.addr.toNat / 32 = pa.toNat / 32) :
    (x.purgeLine pa).stage ≠ .cached := by
  by_cases h : x.stage = .cached <;> simp [StaleWord.purgeLine, h, line]

/-- An uncached load of the line waits for its writes (20_memory.md R179, R191). -/
theorem StaleWord.stage_readLine {x : StaleWord} {pa : Word} (line : x.addr.toNat / 32 = pa.toNat / 32) :
    (x.readLine pa).stage = .inMemory := by
  simp [StaleWord.readLine, line]

/-- `sync` waits for the writes on their way (20_memory.md R184). -/
theorem StaleWord.stage_sync {x : StaleWord} (h : x.stage ≠ .cached) : x.sync.stage = .inMemory := by
  unfold StaleWord.sync
  split
  · rfl
  · cases hs : x.stage <;> simp_all

/-- After `prgins` and `syncins` no record of a word in memory matters (20_memory.md R186, R187). -/
theorem StaleWord.clean_invalidateAll {x : StaleWord} (h : x.stage = .inMemory) :
    x.invalidateAll.syncins.clean = 15#4 := by
  simp only [StaleWord.invalidateAll, StaleWord.syncins, if_pos h]
  exact BitVec.or_allOnes

/-! ## What the operations of the sequences do in supervisor mode -/

theorem privileged_of_supervisor {s : State} (super : s.psw.getLsbD 0 = false)
    (e : Host.Outcome State Fault Refusal) : privileged s e = e := if_neg (Bool.eq_false_iff.1 super)

theorem exec_prgins {s : State} (super : s.psw.getLsbD 0 = false) :
    exec .prgins s = .next { s with stale := s.stale.map StaleWord.invalidateAll, tlb := s.tlb.settle } :=
  privileged_of_supervisor super _

/-- `syncins` (20_memory.md R187). -/
theorem exec_syncins {s : State} (super : s.psw.getLsbD 0 = false) :
    exec (.pswset 0#6) s =
      .next (clearBuffer { s with psw := pswWrite s.psw (s.psw ||| 0#32), tlb := s.tlb.settle }) :=
  privileged_of_supervisor super _

theorem exec_rfi {s : State} (super : s.psw.getLsbD 0 = false) : exec .rfi s = .next (returnFromTrap s) :=
  privileged_of_supervisor super _

/-- `sync` brings a line that is in the data cache no more into memory. -/
theorem lineAt_sync {s t : State} {pa : Word} (h : exec .sync s = .next t) (before : LineAt (· ≠ .cached) s pa) :
    LineAt (· = .inMemory) t pa ∧ t.psw = s.psw := by
  obtain rfl := next_inj h
  exact ⟨lineAt_map rfl StaleWord.addr_sync before fun _ _ => StaleWord.stage_sync, rfl⟩

/-- `prgins` and `syncins` after the line is in memory: nothing old is fetched from it (20_memory.md R189). -/
theorem staleValues_of_invalidated {s t u : State} {va pa : Word} (super : s.psw.getLsbD 0 = false)
    (h : exec .prgins s = .next t) (h' : exec (.pswset 0#6) t = .next u) (before : LineAt (· = .inMemory) s pa) :
    staleValues u va pa = [] := by
  obtain rfl := next_inj ((exec_prgins super).symm.trans h)
  obtain rfl := next_inj ((exec_syncins (by exact super)).symm.trans h')
  refine staleValues_eq_nil fun x hx place => ?_
  rw [clearBuffer_stale, staleKept, List.mem_filter] at hx
  obtain ⟨mem, kept⟩ := hx
  obtain ⟨y, hy, rfl⟩ := List.mem_map.1 mem
  obtain ⟨o, ho, rfl⟩ := List.mem_map.1 hy
  have stage := before o ho (by rw [← place]; simp [StaleWord.syncins])
  simp [StaleWord.clean_invalidateAll stage] at kept

/-- `sync`, `prgins` and `syncins` after the line has left the data cache. -/
theorem staleValues_of_synced {s1 s2 s3 s4 : State} {va pa : Word} (super : s1.psw.getLsbD 0 = false)
    (h2 : exec .sync s1 = .next s2) (h3 : exec .prgins s2 = .next s3) (h4 : exec (.pswset 0#6) s3 = .next s4)
    (before : LineAt (· ≠ .cached) s1 pa) : staleValues s4 va pa = [] := by
  obtain ⟨synced, psw⟩ := lineAt_sync h2 before
  exact staleValues_of_invalidated (psw ▸ super) h3 h4 synced

/-! ## What the first access of a sequence leaves -/

theorem prgadd_purges {a : GReg} {i : Imm9} {s t : State} (space : ¬InCRegSpace (s.imm i + s.r a))
    (mapped : noTranslation s (s.imm i + s.r a) = false) (single : multiMapping s (s.imm i + s.r a) = false)
    (allowed : readViolation s (s.imm i + s.r a) = false) (h : exec (.prgadd a i) s = .next t) :
    LineAt (· ≠ .cached) t (translate s (s.imm i + s.r a)) ∧ t.psw = s.psw := by
  have run : exec (.prgadd a i) s = .next
      { s with stale := s.stale.map (fun x => x.purgeLine (translate s (s.imm i + s.r a))) } := by
    simp [exec, execPrgadd, ea_eq_add, isCRegSpace_eq_false space, purgeCheck, mapped, single, purgeAddress, allowed]
  obtain rfl := next_inj (run.symm.trans h)
  exact ⟨lineAt_map rfl (fun x => x.addr_purgeLine _) (lineAt_any s _) fun _ line _ => StaleWord.stage_purgeLine line,
    rfl⟩

/-- An uncached access of memory that purges the line. -/
theorem lineAt_touchLine_purge {s : State} {pa : Word} (window : windowOf s.cfg pa = .memory) :
    LineAt (· ≠ .cached) (touchLine StaleWord.purgeLine false pa s) pa := by
  have touched : touchLine StaleWord.purgeLine false pa s = { s with stale := s.stale.map (fun x => x.purgeLine pa) } :=
    if_pos ⟨rfl, window⟩
  rw [touched]
  exact lineAt_map rfl (fun x => x.addr_purgeLine _) (lineAt_any s _) fun _ line _ => StaleWord.stage_purgeLine line

theorem lineAt_externalWrite {s : State} {w : Width} {pa v : Word} (h : LineAt (· ≠ .cached) s pa) :
    LineAt (· ≠ .cached) (externalWrite s w false pa v) pa := by
  obtain ⟨-, e⟩ | ⟨-, e⟩ := externalWrite_cases s w false pa v <;> rw [e]
  · exact h
  · intro x hx line
    obtain rfl | hx := List.mem_cons.1 hx
    · simp [staleRecord]
    · exact h x hx line

theorem lineAt_busWrite {s : State} {w : Width} {pa v : Word} (window : windowOf s.cfg pa = .memory) :
    LineAt (· ≠ .cached) (busWrite s w false pa v) pa := by
  obtain ⟨-, e⟩ | ⟨-, e | e⟩ := busWrite_of_memory (w := w) (cached := false) (v := v) window
  · rw [e]
    exact lineAt_externalWrite (lineAt_touchLine_purge window)
  · rw [e]
    exact lineAt_touchLine_purge window
  · rw [e]
    exact lineAt_externalWrite (lineAt_touchLine_purge window)

/-- An uncached store, or an uncached dismissible load that the SCU refuses, takes the line out of the data cache. -/
theorem uncached_access_purges {i : Instr} {n : Nat} {b a : GReg} {k : Imm9} {s t : State}
    (h : (IsStore i n b a k ∧ WritePasses s n (s.imm k + s.r a)) ∨
      (IsDismissibleLoad i n b a k ∧ ReadPasses s n (s.imm k + s.r a) ∧
        scuHit s (translate s (s.imm k + s.r a)) = false))
    (window : windowOf s.cfg (translate s (s.imm k + s.r a)) = .memory)
    (uncached : cachedAccess s (s.imm k + s.r a) = false) (ht : exec i s = .next t) :
    LineAt (· ≠ .cached) t (translate s (s.imm k + s.r a)) ∧ t.psw = s.psw := by
  obtain ⟨store, passes⟩ | ⟨load, passes, miss⟩ := h
  · obtain ⟨w, rfl, run⟩ := exec_of_isStore store
    rw [run, storeOp_of_passes passes, uncached] at ht
    obtain rfl := next_inj ht
    refine ⟨lineAt_busWrite window, ?_⟩
    obtain ⟨m, xs, e, x, y, z, eq, -⟩ := busWrite_changes s w false (translate s (s.imm k + s.r a)) (s.r b)
    rw [eq]
  · obtain ⟨w, f, rfl, run⟩ := exec_of_isDismissibleLoad load
    rw [run, disLoadOp_of_passes passes] at ht
    obtain rfl := next_inj ht
    obtain ⟨e, -⟩ | ⟨-, e, -⟩ | ⟨-, -, e⟩ := disRead_cases w f (s.imm k + s.r a) b s
    · simp [dismissed_of_passes passes] at e
    · simp [miss] at e
    · rw [e, uncached]
      exact ⟨lineAt_touchLine_purge window, by simp⟩

/-- An uncached load that reads waits until the line is in memory. -/
theorem uncached_load_reads {i : Instr} {n : Nat} {signed : Bool} {d a : GReg} {k : Imm9} {s t : State}
    (h : IsNormalLoad i n signed d a k ∨
      (IsDismissibleLoad i n d a k ∧ scuHit s (translate s (s.imm k + s.r a)) = true))
    (passes : ReadPasses s n (s.imm k + s.r a)) (window : windowOf s.cfg (translate s (s.imm k + s.r a)) = .memory)
    (uncached : cachedAccess s (s.imm k + s.r a) = false) (ht : exec i s = .next t) :
    LineAt (· = .inMemory) t (translate s (s.imm k + s.r a)) ∧ t.psw = s.psw := by
  obtain ⟨w, f, rfl, run⟩ := exec_reads h passes
  obtain rfl := next_inj (run.symm.trans ht)
  have touched : ∀ pa, windowOf s.cfg pa = .memory → touchLine StaleWord.readLine false pa s =
      { s with stale := s.stale.map (fun x => x.readLine pa) } := fun pa h => if_pos ⟨rfl, h⟩
  obtain ⟨u, rfl, ⟨v, -, e⟩ | ⟨-, e⟩⟩ := dataRead_cases w f (s.imm k + s.r a) d s
  all_goals
    rw [e, uncached, touched _ window]
    exact ⟨lineAt_map rfl (fun x => x.addr_readLine _) (lineAt_any s _) fun _ line _ => StaleWord.stage_readLine line,
      rfl⟩

/-! ## The micro-TLBs -/

/-- A store of 3 to TLB_CONTROL flushes both micro-TLBs after all outstanding writes to the UTLB (21_translation.md
R246). -/
theorem exec_stw_tlbControl {b a : GReg} {i : Imm9} {s : State} (super : s.psw.getLsbD 0 = false)
    (hb : ¬DataBreak s (s.imm i + s.r a)) (ha : (s.imm i + s.r a).toNat = 0xFFFFFF50) (both : s.r b = 3#32) :
    exec (.stw b a i) s = .next { s with tlb := s.tlb.flush true true, cregStored := some .tlbControl } := by
  rw [exec_stw_creg (r := .tlbControl) (off := 0xFF50) super hb ha rfl (by simp), both]
  rfl

/-- When the pipeline is emptied, what the micro-TLBs hold is all that may be older than the UTLB (21_translation.md
R260). -/
theorem upToDate_settle {t : Tlb} (fetch : CopiesCurrent t t.history.itlb.copies)
    (data : CopiesCurrent t t.history.dtlb.copies) : UpToDate t.settle where
  recent := rfl
  landed := rfl
  fetch := (List.append_nil t.history.itlb.copies).symm ▸ fetch
  data := (List.append_nil t.history.dtlb.copies).symm ▸ data

/-! ## Branches and the instruction buffer -/

/-- The end of a committed bundle that takes a branch invalidates the instruction buffer (20_memory.md R171). -/
theorem finish_of_taken {s : State} {is : List Instr} {i : Instr} (mem : i ∈ is) (transfer : changesPc i = true)
    (taken : takenBranch s i = true) (t : State) :
    ∃ u, u.stale = t.stale ∧ (finish s ⟨.committed is, t⟩).stale = (refetch s is u).stale := by
  have refetched : refetches s is = true := List.any_eq_true.2 ⟨i, mem, by simp [transfer, taken]⟩
  obtain ⟨c, hc⟩ := countEvents_changes s (.committed is) t
  refine ⟨tickHazards (countEvents s (.committed is) t), by rw [hc]; rfl, ?_⟩
  change (settleBundle s (.committed is) (countEvents s (.committed is) t)).stale = _
  simp [settleBundle, refetched]

theorem invalidatesPage_iff {i : Instr} : invalidatesPage i = true ↔ ∃ a k, i = .prginspg a k := by
  constructor
  · intro h
    unfold invalidatesPage at h
    split at h
    · exact ⟨_, _, rfl⟩
    · cases h
  · rintro ⟨a, k, rfl⟩
    rfl

/-- A taken branch makes every invalidation effective, where the bundle holds no `prginspg`. -/
theorem effective_after_branch {s t : State} {is : List Instr} {i : Instr} (mem : i ∈ is) (transfer : changesPc i = true)
    (taken : takenBranch s i = true) (none : ∀ a k, .prginspg a k ∉ is) :
    ∀ x ∈ (finish s ⟨.committed is, t⟩).stale, x.invalidated &&& ~~~x.clean = 0#4 := by
  obtain ⟨u, -, ended⟩ := finish_of_taken mem transfer taken t
  obtain ⟨page, -⟩ | ⟨-, e⟩ := refetch_cases s is u
  · obtain ⟨j, hj, page⟩ := List.any_eq_true.1 page
    obtain ⟨a, k, rfl⟩ := invalidatesPage_iff.1 page
    exact absurd hj (none a k)
  · rw [ended, e, clearBuffer_stale]
    intro x hx
    obtain ⟨o, -, rfl⟩ := List.mem_map.1 (List.mem_of_mem_filter hx)
    exact syncins_effective o

/-- A `prginspg` changes what is invalidated of a record alone. -/
theorem invalidatePage_changes (x : StaleWord) (ea : Word) : ∃ v, x.invalidatePage ea = { x with invalidated := v } := by
  unfold StaleWord.invalidatePage StaleWord.invalidateIn
  split
  · split <;> exact ⟨_, rfl⟩
  · exact ⟨_, rfl⟩

/-- Beside a `prginspg`, a taken branch makes the invalidations from before the bundle effective. -/
theorem earlier_effective_after_branch {s t : State} {is : List Instr} {i : Instr} (mem : i ∈ is)
    (transfer : changesPc i = true) (taken : takenBranch s i = true) {a : GReg} {k : Imm9} (page : .prginspg a k ∈ is)
    {ea : Word} (after : t.stale = s.stale.map (fun x => x.invalidatePage ea)) :
    ∀ x ∈ (finish s ⟨.committed is, t⟩).stale, ∃ o ∈ s.stale, x.addr = o.addr ∧ x.old = o.old ∧ x.stage = o.stage ∧
      o.invalidated &&& ~~~x.clean = 0#4 := by
  obtain ⟨u, stale, ended⟩ := finish_of_taken mem transfer taken t
  obtain ⟨-, e⟩ | ⟨none, -⟩ := refetch_cases s is u
  · rw [ended, e, clearBufferOf_stale, stale, after, List.zipWith_map_left, List.zipWith_self]
    intro x hx
    obtain ⟨o, ho, rfl⟩ := List.mem_map.1 (List.mem_of_mem_filter hx)
    obtain ⟨v, changed⟩ := invalidatePage_changes o ea
    rw [changed]
    exact ⟨o, ho, rfl, rfl, rfl, syncins_effective o⟩
  · exact absurd (List.any_eq_true.2 ⟨_, page, rfl⟩) (Bool.eq_false_iff.1 none)

/-- Settles O44: each sequence brings the records of its line to memory and then to nothing; the rest empties the
pipeline, the micro-TLBs or the instruction buffer. -/
theorem coherencySequencesTakeEffect : Obligations.CoherencySequencesTakeEffect := by
  refine ⟨?_, ?_, ?_, ?_, fun s super fetch data => ⟨?_, ?_⟩, fun s is i t mem transfer taken => ⟨?_, ?_⟩,
    fun s t x => ⟨emptied_finish s t (.inl ⟨x, rfl⟩), emptied_finish s t (.inr rfl)⟩⟩
  · rintro a i s s1 s2 s3 s4 _ va pa rfl space mapped single allowed super h1 h2 h3 h4 line
    obtain ⟨purged, psw⟩ := prgadd_purges space mapped single allowed h1
    exact staleValues_of_synced (psw ▸ super) h2 h3 h4 (purged.congr line)
  · rintro i n b a k s s1 s2 s3 s4 _ va pa access rfl window uncached super h1 h2 h3 h4 line
    obtain ⟨purged, psw⟩ := uncached_access_purges access window uncached h1
    exact staleValues_of_synced (psw ▸ super) h2 h3 h4 (purged.congr line)
  · rintro i n x d a k s s1 s2 s3 _ va pa load rfl passes window uncached super h1 h2 h3 line
    obtain ⟨read, psw⟩ := uncached_load_reads load passes window uncached h1
    exact staleValues_of_invalidated (psw ▸ super) h2 h3 (read.congr line)
  · intro b a i s super hb ha both
    exact ⟨_, exec_stw_tlbControl super hb ha both, rfl, rfl, rfl, rfl⟩
  · exact ⟨_, exec_syncins super, upToDate_settle fetch data, rfl⟩
  · exact ⟨_, exec_rfi super, upToDate_settle fetch data, rfl⟩
  · exact effective_after_branch mem transfer taken
  · exact fun a k ea page after => earlier_effective_after_branch mem transfer taken page after

end Sys2Proof.Machine
end

section
/-! PROOF. Translation: what the lookup of an address finds in terms of the UTLB entries that match it, and from it the
translation and protection of data and fetch, and TLB_EXCAUSE of an access that is refused (21_translation.md R248 to
R258). -/

namespace Sys2Proof.Machine

open Sys2Proof.Rules

/-! ## The match of one entry -/

/-- The sizes with a page: an entry of SIZE 0 or a reserved SIZE has none (21_translation.md R239, R249). -/
theorem pageBits_iff {e : TlbEntry} {k : Nat} : pageBits e.size = some k ↔ PageBits e k := by
  have sizes : ∀ z : BitVec 3, pageBits z =
      if z = 1#3 then some 13 else if z = 2#3 then some 22 else if z = 3#3 then some 28 else none := by decide
  rw [sizes, PageBits]
  split_ifs with h1 h2 h3
  · simp [h1, eq_comm]
  · simp [h2, eq_comm]
  · simp [h3, eq_comm]
  · simp [h1, h2, h3]

/-- `Match` of 21_translation.md R249 for an entry, wherever it stands. -/
theorem entryMatches_iff_pageBits {t : Tlb} {e : TlbEntry} {a : Word} : entryMatches t e a = true ↔
    ∃ k, PageBits e k ∧ (e.shared = true ∨ e.asid = t.asid) ∧ a.toNat / 2 ^ k = e.vaddr.toNat / 2 ^ (k - 13) := by
  simp only [← pageBits_iff, entryMatches]
  cases pageBits e.size with
  | none => simp
  | some k => simp [spaceOk, Nat.shiftRight_eq_div_pow]

theorem entryMatches_iff {t : Tlb} {a : Word} {i : Fin 64} :
    entryMatches t t.entries[i] a = true ↔ Matches t a i := entryMatches_iff_pageBits

/-- The address on the page of an entry (21_translation.md R251). -/
theorem entryPhys_eq {e : TlbEntry} {k : Nat} (h : PageBits e k) (a : Word) : entryPhys e a = pageAddress e k a := by
  simp only [entryPhys, pageBits_iff.2 h, pageAddress, Nat.shiftRight_eq_div_pow, Nat.shiftLeft_eq]

/-! ## The lookup in the UTLB -/

theorem mem_hitsFrom {t : Tlb} {a : Word} {i : Nat} {es : List TlbEntry} {x : Nat × TlbEntry} :
    x ∈ hitsFrom t a i es ↔ ∃ n, es[n]? = some x.2 ∧ x.1 = i + n ∧ entryMatches t x.2 a = true := by
  induction es generalizing i with
  | nil => simp [hitsFrom]
  | cons e es ih =>
    rw [hitsFrom, ← Nat.or_exists_add_one]
    simp only [List.getElem?_cons_zero, List.getElem?_cons_succ, Option.some.injEq, Nat.add_zero, ← Nat.add_assoc,
      Nat.add_right_comm i _ 1, ← ih]
    split
    · rename_i he
      rw [List.mem_cons]
      refine or_congr_left ⟨?_, ?_⟩
      · rintro rfl
        exact ⟨rfl, rfl, he⟩
      · rintro ⟨rfl, h, -⟩
        exact Prod.ext h rfl
    · rename_i he
      refine (or_iff_right ?_).symm
      rintro ⟨rfl, -, h⟩
      exact he h

/-- The entries found stand in rising order (21_translation.md R249). -/
theorem hitsFrom_pairwise (t : Tlb) (a : Word) (i : Nat) (es : List TlbEntry) :
    (hitsFrom t a i es).Pairwise (fun x y => x.1 < y.1) := by
  induction es generalizing i with
  | nil => exact .nil
  | cons e es ih =>
    rw [hitsFrom]
    split
    · refine .cons (fun y hy => ?_) (ih (i + 1))
      obtain ⟨n, -, h, -⟩ := mem_hitsFrom.1 hy
      omega
    · exact ih (i + 1)

/-- The entries found are those that match. -/
theorem mem_hits {t : Tlb} {a : Word} {x : Nat × TlbEntry} :
    x ∈ hits t a ↔ ∃ i : Fin 64, x = (i.val, t.entries[i]) ∧ Matches t a i := by
  rw [hits, mem_hitsFrom]
  constructor
  · rintro ⟨n, hn, hx, hm⟩
    rw [Vector.getElem?_toList, Vector.getElem?_eq_some_iff] at hn
    obtain ⟨lt, hn⟩ := hn
    refine ⟨⟨n, lt⟩, Prod.ext (by simpa using hx) hn.symm, entryMatches_iff.1 ?_⟩
    rw [← hn] at hm
    exact hm
  · rintro ⟨i, rfl, hm⟩
    exact ⟨i.val, by simp, by simp, entryMatches_iff.2 hm⟩

/-- What the lookup in the UTLB gives, case by case: no entry, one, or several. -/
theorem lookupIn_cases (t : Tlb) (a : Word) :
    (lookupIn t a = .miss ∧ ∀ i, ¬Matches t a i) ∨
    (∃ i : Fin 64, lookupIn t a = .hit i.val t.entries[i] ∧ OnlyMatch t a i) ∨
    (lookupIn t a = .multi ∧ SeveralMatch t a) := by
  have found : ∀ i, Matches t a i → (i.val, t.entries[i]) ∈ hits t a := fun i hi => mem_hits.2 ⟨i, rfl, hi⟩
  have order := hitsFrom_pairwise t a 0 t.entries.toList
  rw [← hits] at order
  unfold lookupIn
  match e : hits t a with
  | [] => exact .inl ⟨rfl, fun i hi => by simpa [e] using found i hi⟩
  | [x] =>
    obtain ⟨i, rfl, hi⟩ := mem_hits.1 (e ▸ List.mem_singleton_self x)
    refine .inr (.inl ⟨i, rfl, hi, fun j hj => Fin.ext ?_⟩)
    have alone := found j hj
    rw [e, List.mem_singleton] at alone
    exact congrArg Prod.fst alone
  | x :: y :: rest =>
    obtain ⟨i, rfl, hi⟩ := mem_hits.1 (e ▸ List.mem_cons_self : x ∈ hits t a)
    obtain ⟨j, rfl, hj⟩ := mem_hits.1 (e ▸ List.mem_cons_of_mem _ List.mem_cons_self : y ∈ hits t a)
    rw [e] at order
    have rising := List.rel_of_pairwise_cons order List.mem_cons_self
    exact .inr (.inr ⟨rfl, i, j, Fin.ne_of_lt rising, hi, hj⟩)

theorem not_severalMatch_of_only {t : Tlb} {a : Word} {i : Fin 64} (h : OnlyMatch t a i) : ¬SeveralMatch t a := by
  rintro ⟨j, k, ne, hj, hk⟩
  exact ne ((h.2 j hj).trans (h.2 k hk).symm)

theorem exists_matches_of_several {t : Tlb} {a : Word} (h : SeveralMatch t a) : ∃ i, Matches t a i := by
  obtain ⟨i, -, -, hi, -⟩ := h
  exact ⟨i, hi⟩

theorem lookupIn_of_only {t : Tlb} {a : Word} {i : Fin 64} (h : OnlyMatch t a i) :
    lookupIn t a = .hit i.val t.entries[i] := by
  obtain ⟨-, none⟩ | ⟨j, e, only⟩ | ⟨-, several⟩ := lookupIn_cases t a
  · exact absurd h.1 (none i)
  · rw [e, only.2 i h.1]
  · exact absurd several (not_severalMatch_of_only h)

/-! ## Lookups where no older translation is in use -/

/-- With translation off every lookup says so (21_translation.md R222). -/
theorem lookup_of_off {s : State} (off : s.psw.getLsbD 2 = false) (d : Side) (a : Word) : lookup d s a = .off := by
  rw [lookup, State.tlbEnable, off]
  rfl

/-- A held copy of a present entry that no other overlaps gives what the UTLB gives. -/
theorem olderLookups_eq_nil {t : Tlb} (h : UpToDate t) (d : Side) (a : Word) : olderLookups d t a = [] := by
  have current : CopiesCurrent t (t.heldCopies d) := by
    cases d
    · exact h.fetch
    · exact h.data
  simp only [olderLookups, h.recent, h.landed, List.append_nil, Tlb.before, List.flatMap_cons, List.flatMap_nil]
  refine List.filter_eq_nil_iff.2 fun x hx => ?_
  obtain rfl | hx := List.mem_cons.1 hx
  · simp
  · obtain ⟨c, hc, rfl⟩ := List.mem_map.1 hx
    obtain ⟨held, hm⟩ := List.mem_filter.1 hc
    obtain ⟨i, index, entry, only⟩ := current c held
    rw [← entry] at hm
    rw [lookupIn_of_only (only a (entryMatches_iff.1 hm)), index, entry]
    simp

theorem lookup_of_coherent {s : State} (h : CoherentTlb s) (d : Side) (a : Word) : lookup d s a = lookupIn s.tlb a := by
  simp [lookup, State.tlbEnable, h.enabled, olderLookups_eq_nil h.coherent]

section
variable {s : State} {a : Word}

theorem lookup_of_none (h : CoherentTlb s) (none : ∀ i, ¬Matches s.tlb a i) (d : Side) : lookup d s a = .miss := by
  rw [lookup_of_coherent h]
  obtain ⟨e, -⟩ | ⟨i, -, only⟩ | ⟨-, several⟩ := lookupIn_cases s.tlb a
  · exact e
  · exact absurd only.1 (none i)
  · exact absurd (exists_matches_of_several several) (not_exists.2 none)

theorem lookup_of_only (h : CoherentTlb s) {i : Fin 64} (only : OnlyMatch s.tlb a i) (d : Side) :
    lookup d s a = .hit i.val s.tlb.entries[i] :=
  (lookup_of_coherent h d a).trans (lookupIn_of_only only)

theorem lookup_of_several (h : CoherentTlb s) (several : SeveralMatch s.tlb a) (d : Side) : lookup d s a = .multi := by
  rw [lookup_of_coherent h]
  obtain ⟨-, none⟩ | ⟨i, -, only⟩ | ⟨e, -⟩ := lookupIn_cases s.tlb a
  · exact absurd (exists_matches_of_several several) (not_exists.2 none)
  · exact absurd several (not_severalMatch_of_only only)
  · exact e

/-! ## Translation and protection -/

theorem prot_iff {e : TlbEntry} {bit : Nat} : (prot s e).getLsbD bit = true ↔ Permits s e bit := Iff.rfl

/-- `NoTranslation` (21_translation.md R250). -/
theorem noTranslation_iff (h : CoherentTlb s) : noTranslation s a = true ↔ ∀ i, ¬Matches s.tlb a i := by
  rw [noTranslation, lookup_of_coherent h]
  obtain ⟨e, none⟩ | ⟨i, e, only⟩ | ⟨e, several⟩ := lookupIn_cases s.tlb a <;> rw [e]
  · simpa using none
  · simpa using ⟨i, only.1⟩
  · simpa using exists_matches_of_several several

/-- `MultiMapping` (21_translation.md R250). -/
theorem multiMapping_iff (h : CoherentTlb s) : multiMapping s a = true ↔ SeveralMatch s.tlb a := by
  rw [multiMapping, lookup_of_coherent h]
  obtain ⟨e, none⟩ | ⟨i, e, only⟩ | ⟨e, several⟩ := lookupIn_cases s.tlb a <;> rw [e]
  · simpa using fun several => not_exists.2 none (exists_matches_of_several several)
  · simpa using not_severalMatch_of_only only
  · simpa using several

/-- Where no single page is hit, no permission is missing and no page is clean. -/
theorem violations_of_not_only (h : CoherentTlb s) (none : ∀ i, ¬OnlyMatch s.tlb a i) :
    readViolation s a = false ∧ writeViolation s a = false := by
  simp only [readViolation, writeViolation, lacks, cleanPage, lookup_of_coherent h]
  obtain ⟨e, -⟩ | ⟨i, -, only⟩ | ⟨e, -⟩ := lookupIn_cases s.tlb a
  · simp [e]
  · exact absurd only (none i)
  · simp [e]

theorem readViolation_iff (h : CoherentTlb s) {i : Fin 64} (only : OnlyMatch s.tlb a i) :
    readViolation s a = true ↔ ¬Permits s s.tlb.entries[i] 1 := by
  simp [readViolation, lacks, lookup_of_only h only, ← prot_iff]

theorem writeViolation_iff (h : CoherentTlb s) {i : Fin 64} (only : OnlyMatch s.tlb a i) :
    writeViolation s a = true ↔ ¬Permits s s.tlb.entries[i] 2 ∨ s.tlb.entries[i].dirty = false := by
  simp [writeViolation, lacks, cleanPage, lookup_of_only h only, ← prot_iff]

theorem translateFetch_of_permits (h : CoherentTlb s) {i : Fin 64} (only : OnlyMatch s.tlb a i)
    (execute : Permits s s.tlb.entries[i] 0) : translateFetch s a = .ok (entryPhys s.tlb.entries[i] a) := by
  simp only [translateFetch, lookup_of_only h only]
  exact if_pos execute

/-- With translation off an address is its own translation, and nothing is refused (21_translation.md R222). -/
theorem translation_of_off (off : s.psw.getLsbD 2 = false) :
    noTranslation s a = false ∧ multiMapping s a = false ∧ readViolation s a = false ∧ writeViolation s a = false ∧
      cachedAccess s a = false ∧ translate s a = a ∧ translateFetch s a = .ok a := by
  simp [noTranslation, multiMapping, readViolation, writeViolation, lacks, cleanPage, cachedAccess, translate,
    translateFetch, lookup_of_off off]

end

/-- Settles O33: where no older translation is in use, a lookup finds the entries that match, and each predicate follows
from what it finds. -/
theorem translationFollowsTheMatchingEntries : Obligations.TranslationFollowsTheMatchingEntries := by
  refine ⟨fun s a off => translation_of_off off, fun s a h => ⟨noTranslation_iff h, multiMapping_iff h,
    violations_of_not_only h, fun i k only page => ⟨?_, readViolation_iff h only, writeViolation_iff h only, ?_, ?_⟩⟩⟩
  · simp only [translate, lookup_of_only h only, entryPhys_eq page]
  · simp [cachedAccess, lookup_of_only h only]
  · exact fun execute => by rw [translateFetch_of_permits h only execute, entryPhys_eq page]

/-! ## TLB_EXCAUSE of a refused access -/

section
variable {s : State} {a : Word} {d : Side} {bit : Nat} {write spec : Bool}

theorem excauseFor_of_none (h : CoherentTlb s) (none : ∀ i, ¬Matches s.tlb a i) :
    excauseFor d s bit write spec a = ⟨0#8, 0#2, spec, write, false⟩ := by
  simp [excauseFor, excauseNone, lookup_of_none h none]

theorem excauseFor_of_several (h : CoherentTlb s) (several : SeveralMatch s.tlb a) :
    excauseFor d s bit write spec a = ⟨0#8, 3#2, spec, write, false⟩ := by
  simp [excauseFor, excauseNone, lookup_of_several h several]

/-- Exactly one entry matches: a missing permission is cause 1, else the page is clean (21_translation.md R254). -/
theorem excauseFor_of_only (h : CoherentTlb s) {i : Fin 64} (only : OnlyMatch s.tlb a i) :
    excauseFor d s bit write spec a =
      ⟨BitVec.ofNat 8 i.val, if (prot s s.tlb.entries[i]).getLsbD bit then 2#2 else 1#2, spec, write, true⟩ := by
  simp [excauseFor, excauseHit, lookup_of_only h only, lookupIn_of_only only]

theorem excauseFor_of_denied (h : CoherentTlb s) {i : Fin 64} (only : OnlyMatch s.tlb a i)
    (denied : ¬Permits s s.tlb.entries[i] bit) :
    excauseFor d s bit write spec a = ⟨BitVec.ofNat 8 i.val, 1#2, spec, write, true⟩ := by
  rw [excauseFor_of_only h only, if_neg (prot_iff.not.2 denied)]

theorem excauseFor_of_clean (h : CoherentTlb s) {i : Fin 64} (only : OnlyMatch s.tlb a i)
    (allowed : Permits s s.tlb.entries[i] bit) :
    excauseFor d s bit write spec a = ⟨BitVec.ofNat 8 i.val, 2#2, spec, write, true⟩ := by
  rw [excauseFor_of_only h only, if_pos (prot_iff.2 allowed)]

end

/-- Trap entry for DTLB leaves the cause it is given (21_translation.md R257). -/
theorem recordsCause_of_raised {i : Instr} {s : State} {a : Word} {e : TlbExcause}
    (h : exec i s = raised ⟨.dtlb, a, some e⟩ s) : RecordsCause i s e := ⟨_, h, rfl, rfl⟩

theorem load_recordsCause {i : Instr} {n : Nat} {signed : Bool} {d a : GReg} {k : Imm9} {s : State}
    (load : IsNormalLoad i n signed d a k) (reaches : ReachesTlb s n (s.imm k + s.r a))
    (refused : NotTranslated readViolation s (s.imm k + s.r a)) :
    RecordsCause i s (excauseFor .data s 1 false false (s.imm k + s.r a)) := by
  obtain ⟨w, f, rfl, run, -⟩ := exec_of_isNormalLoad load
  exact recordsCause_of_raised ((run s).trans
    (loadOp_of_refused reaches.noBreak reaches.space (readCheck_of_notTranslated reaches.aligned refused)))

theorem store_recordsCause {i : Instr} {n : Nat} {b a : GReg} {k : Imm9} {s : State}
    (store : IsStore i n b a k) (reaches : ReachesTlb s n (s.imm k + s.r a))
    (refused : NotTranslated writeViolation s (s.imm k + s.r a)) :
    RecordsCause i s (excauseFor .data s 2 true false (s.imm k + s.r a)) := by
  obtain ⟨w, rfl, run⟩ := exec_of_isStore store
  exact recordsCause_of_raised ((run s).trans
    (storeOp_of_refused reaches.noBreak reaches.space (writeCheck_of_notTranslated reaches.aligned refused)))

/-- `prgadd` and a dismissible load raise for several pages, or for none with TLB_DYNAMIC (20_memory.md R151, R182). -/
theorem speculative_recordsCause {i : Instr} {n : Nat} {d a : GReg} {k : Imm9} {s : State}
    (space : ¬InCRegSpace (s.imm k + s.r a))
    (op : i = .prgadd a k ∨ (IsDismissibleLoad i n d a k ∧ ¬DataBreak s (s.imm k + s.r a) ∧
      ((s.imm k + s.r a).toNat % n = 0 ∨ s.psw.getLsbD 4 = false)))
    (refused : multiMapping s (s.imm k + s.r a) = true ∨
      (noTranslation s (s.imm k + s.r a) = true ∧ s.psw.getLsbD 3 = true)) :
    RecordsCause i s (excauseFor .data s 1 false true (s.imm k + s.r a)) := by
  obtain rfl | ⟨load, noBreak, aligned⟩ := op
  · have check : purgeCheck (s.imm k + s.r a) s = some (raiseSpec s (s.imm k + s.r a)) :=
      if_pos (by simpa [State.tlbDynamic, and_comm] using refused)
    refine recordsCause_of_raised (a := s.imm k + s.r a) ?_
    simp only [exec, execPrgadd, ea_eq_add, isCRegSpace_eq_false space, check, raiseSpec]
    rfl
  · obtain ⟨w, f, rfl, run⟩ := exec_of_isDismissibleLoad load
    exact recordsCause_of_raised ((run s).trans
      (disLoadOp_of_refused noBreak space (disReadCheck_of_notTranslated aligned refused)))

/-- A fetch that finds no page it may execute is refused (21_translation.md R255). -/
theorem translateFetch_of_refused {s : State} {a : Word} (h : CoherentTlb s)
    (refused : ∀ i, OnlyMatch s.tlb a i → ¬Permits s s.tlb.entries[i] 0) :
    translateFetch s a = .error ⟨.itlb, a, some (excauseFor .fetch s 0 false false a)⟩ := by
  rw [translateFetch, lookup_of_coherent h]
  obtain ⟨e, -⟩ | ⟨i, e, only⟩ | ⟨e, -⟩ := lookupIn_cases s.tlb a <;> rw [e]
  · rfl
  · exact if_neg (refused i only)
  · rfl

/-- Settles O34: the access is refused as its check says, and the cause is that of what the lookup finds. -/
theorem tlbExceptionsRecordTheirCause : Obligations.TlbExceptionsRecordTheirCause := by
  refine ⟨?_, ?_, ?_, fun s a h => ⟨fun none => ?_, fun several => ?_, fun i only denied => ?_⟩⟩
  · rintro ld n x d a k s _ load rfl reaches h
    refine ⟨fun none => ?_, fun several => ?_, fun i only denied => ?_⟩
    · rw [← excauseFor_of_none h none]
      exact load_recordsCause load reaches (.inl ((noTranslation_iff h).2 none))
    · rw [← excauseFor_of_several h several]
      exact load_recordsCause load reaches (.inr (.inl ((multiMapping_iff h).2 several)))
    · rw [← excauseFor_of_denied h only denied]
      exact load_recordsCause load reaches (.inr (.inr ((readViolation_iff h only).2 denied)))
  · rintro st n b a k s _ store rfl reaches h
    refine ⟨fun none => ?_, fun several => ?_, fun i only denied => ?_, fun i only allowed clean => ?_⟩
    · rw [← excauseFor_of_none h none]
      exact store_recordsCause store reaches (.inl ((noTranslation_iff h).2 none))
    · rw [← excauseFor_of_several h several]
      exact store_recordsCause store reaches (.inr (.inl ((multiMapping_iff h).2 several)))
    · rw [← excauseFor_of_denied h only denied]
      exact store_recordsCause store reaches (.inr (.inr ((writeViolation_iff h only).2 (.inl denied))))
    · rw [← excauseFor_of_clean h only allowed]
      exact store_recordsCause store reaches (.inr (.inr ((writeViolation_iff h only).2 (.inr clean))))
  · rintro ld n d a k s _ rfl h space op
    refine ⟨fun none dynamic => ?_, fun several => ?_⟩
    · rw [← excauseFor_of_none h none]
      exact speculative_recordsCause space op (.inr ⟨(noTranslation_iff h).2 none, dynamic⟩)
    · rw [← excauseFor_of_several h several]
      exact speculative_recordsCause space op (.inl ((multiMapping_iff h).2 several))
  · rw [translateFetch_of_refused h fun i only => absurd only.1 (none i), excauseFor_of_none h none]
  · have refused : ∀ i, OnlyMatch s.tlb a i → ¬Permits s s.tlb.entries[i] 0 := fun i only =>
      absurd several (not_severalMatch_of_only only)
    rw [translateFetch_of_refused h refused, excauseFor_of_several h several]
  · have refused : ∀ j, OnlyMatch s.tlb a j → ¬Permits s s.tlb.entries[j] 0 := fun j other =>
      only.2 j other.1 ▸ denied
    rw [translateFetch_of_refused h refused, excauseFor_of_denied h only denied]

end Sys2Proof.Machine
end

section
/-! PROOF. The registers of the translation unit: what a store to each changes, and the load of TLB_REPLACE
(21_translation.md R236 to R248). -/

namespace Sys2Proof.Machine

open Sys2Proof.Rules

/-! ## Stores to the UTLB -/

/-- A store to the selected entry puts it in its place, where TLB_INDEX selects one. -/
theorem Tlb.setCurrent_entries {t : Tlb} {e : TlbEntry} (h : t.entries[t.index.toNat]? = some e) (x : TlbEntry) :
    (t.setCurrent x).entries = t.entries.setIfInBounds t.index.toNat x := by
  unfold Tlb.setCurrent
  split
  · rename_i same
    rw [Tlb.current_of_getElem? h] at same
    subst same
    obtain ⟨lt, rfl⟩ := Vector.getElem?_eq_some_iff.1 h
    refine Vector.ext fun k hk => ?_
    rw [Vector.getElem_setIfInBounds]
    split <;> rename_i place
    · simp only [place]
    · rfl
  · rfl

/-- It changes nothing else but the record of what the entry was. -/
theorem Tlb.setCurrent_rest (t : Tlb) (e : TlbEntry) :
    { t.setCurrent e with entries := t.entries, history := t.history } = t := by
  unfold Tlb.setCurrent
  split <;> rfl

/-- A flush changes no more than the record of older translations. -/
theorem Tlb.flush_rest (t : Tlb) (i d : Bool) : { t.flush i d with history := t.history } = t := by
  unfold Tlb.flush
  split <;> rfl

/-- A store to TLB_ASID changes no more than that record and the address space. -/
theorem Tlb.setAsid_rest (t : Tlb) (v : BitVec 8) : { t.setAsid v with asid := t.asid, history := t.history } = t := by
  unfold Tlb.setAsid
  dsimp only
  split <;> simp [Tlb.flush]

theorem cregWrites_of_lookup {off : Nat} {r : CReg} {post : Word → State → State → Prop}
    (hr : cregTable.lookup off = some r) (hp : ∀ v s, post v s (cregUpdate s r v))
    (data : ∀ p, r ≠ .sdiData p := by simp) : CRegWrites off post :=
  fun b _ _ s hs hb ha =>
    ⟨cregUpdate s r (s.r b), r, notedAs_of_lookup hr, hp (s.r b) s, exec_stw_creg hs hb ha hr data⟩

theorem entryTakes_of_lookup {off : Nat} {r : CReg} {upd : Word → TlbEntry → TlbEntry}
    (hr : cregTable.lookup off = some r)
    (hu : ∀ v s, cregUpdate s r v = { s with tlb := s.tlb.setCurrent (upd v s.tlb.current) })
    (data : ∀ p, r ≠ .sdiData p := by simp) : EntryTakes off upd := by
  refine cregWrites_of_lookup hr (fun v s e he => ?_) data
  rw [hu, Tlb.current_of_getElem? he]
  refine ⟨Tlb.setCurrent_entries he _, ?_⟩
  simp only [Tlb.setCurrent_rest]

/-! ## TLB_REPLACE -/

/-- The LFSR moves up one place, and the parity of its taps enters below (21_translation.md R245). -/
theorem lfsrNext_eq (x : BitVec 16) : lfsrNext x = lfsrClocked x := by
  unfold lfsrNext lfsrClocked
  generalize (x.getLsbD 15 ^^ x.getLsbD 14 ^^ x.getLsbD 12 ^^ x.getLsbD 3) = taps
  ext k hk
  rw [BitVec.getElem_append]
  cases k with
  | zero => cases taps <;> simp [bit1, bitNumber]
  | succ k =>
    have low : k < 16 := by omega
    cases taps <;> simp [bitNumber, BitVec.getLsbD_eq_getElem low]

/-- TLB_REPLACE as it reads (21_translation.md R245). -/
theorem tlbReplace_word (limit : BitVec 8) (lfsr : BitVec 16) :
    0#8 ++ limit ++ lfsr = limit.setWidth 32 <<< 16 ||| lfsr.setWidth 32 := by
  rw [zero_append]
  ext k hk
  rw [BitVec.getElem_append]
  split <;> rename_i low
  · simp [low]
  · simp [low, BitVec.getLsbD_of_ge lfsr k (Nat.le_of_not_lt low)]

/-- A supervisor's load of TLB_REPLACE gives LIMIT and LFSR and clocks the LFSR. -/
theorem exec_ldw_tlbReplace {d a : GReg} {i : Imm9} {s : State} (hs : s.psw.getLsbD 0 = false)
    (hb : ¬DataBreak s (s.imm i + s.r a)) (ha : (s.imm i + s.r a).toNat = 0xFFFFFF48) :
    exec (.ldw d a i) s = .next ({ s with tlb := { s.tlb with lfsr := lfsrNext s.tlb.lfsr } }.writeR d
      (0#8 ++ s.tlb.limit ++ s.tlb.lfsr)) := by
  change loadOp .word id d a i s = _
  rw [loadOp_of_cregSpace hb (by unfold InCRegSpace; omega), if_pos rfl, cregLoad,
    cregCheck_supervisor (off := 0xFF48) (r := .tlbReplace) hs ha rfl]
  rfl

/-- Settles O25: the map names the register at each offset, and a store gives its fields the bits of the word. -/
theorem translationRegistersFollowTheirFields : Obligations.TranslationRegistersFollowTheirFields := by
  refine ⟨?_, ?_, ?_, ?_, ?_, ?_, ?_, ?_, fun d a i s hs hb ha => ?_⟩
  · exact cregTakes_of_lookup (r := .tlbIndex) rfl fun v s => by
      simp [cregUpdate, extractLsb'_zero_eq]
  · exact entryTakes_of_lookup (r := .tlbEntry0) rfl fun v s => by
      simp only [cregUpdate, TlbEntry.setWord0, extractLsb'_eq_shift, BitVec.ushiftRight_zero]
  · exact entryTakes_of_lookup (r := .tlbEntry1) rfl fun v s => by simp only [cregUpdate, extractLsb'_zero_eq]
  · exact entryTakes_of_lookup (r := .tlbEntry2) rfl fun v s => by simp only [cregUpdate, extractLsb'_zero_eq]
  · exact cregTakes_of_lookup (r := .tlbExcause) rfl fun v s => by
      simp only [cregUpdate, TlbExcause.ofWord, extractLsb'_eq_shift, BitVec.ushiftRight_zero]
  · exact cregTakes_of_lookup (r := .tlbReplace) rfl fun v s => by
      simp only [cregUpdate, extractLsb'_eq_shift, BitVec.ushiftRight_zero]
  · exact cregWrites_of_lookup (r := .tlbControl) rfl fun v s => by simp only [cregUpdate, Tlb.flush_rest]
  · exact cregWrites_of_lookup (r := .tlbAsid) rfl fun v s =>
      ⟨by simp [cregUpdate, extractLsb'_zero_eq], by simp only [cregUpdate, Tlb.setAsid_rest]⟩
  · rw [exec_ldw_tlbReplace hs hb ha, lfsrNext_eq, tlbReplace_word]

end Sys2Proof.Machine
end

section
/-! PROOF. The comparisons of the SCU and of the breakpoint units (21_translation.md R272, 61_platform_devices.md R654,
R655). -/

namespace Sys2Proof.Machine

open Sys2Proof.Rules

/-- Bits [31:13] of a physical address lie in one of the four regions (21_translation.md R272). -/
theorem scuHit_iff {s : State} {pa : Word} : scuHit s pa = true ↔
    ∃ x : Fin 4, s.scu[x].base.toNat ≤ pa.toNat / 2 ^ 13 ∧ pa.toNat / 2 ^ 13 ≤ s.scu[x].limit.toNat := by
  rw [scuHit, List.any_eq_true]
  simp [Vector.mem_iff_getElem, Fin.exists_iff, ScuRegion.holds, Nat.shiftRight_eq_div_pow]

/-- The enabled conditions of a comparison, joined by OR (61_platform_devices.md R654; decision D32). -/
theorem breakMatch_iff {c : BitVec 4} {a lo up masked : Nat} :
    breakMatch c a lo up masked = true ↔ BreakCondition c a lo up masked := by
  simp only [breakMatch, BreakCondition, Bool.or_eq_true, Bool.and_eq_true, decide_eq_true_eq, or_assoc, and_assoc]

/-- Settles O35: each comparison is that of its rule on unsigned numbers, of the PC without bits [1:0]. -/
theorem scuAndBreakpointComparisons : Obligations.ScuAndBreakpointComparisons := by
  refine ⟨fun s pa => scuHit_iff, fun s a => ?_, fun s => ?_⟩
  · rw [isDBreakHit, Bool.and_eq_true, dataBreakPoint, breakMatch_iff]
    rfl
  · have masked : (s.pc &&& s.ibreak.upper).toNat >>> 2 = s.pc.toNat / 4 &&& s.ibreak.upper.toNat / 4 := by
      rw [BitVec.toNat_and, Nat.shiftRight_and_distrib]
      simp only [Nat.shiftRight_eq_div_pow, Nat.reducePow]
    rw [isIBreakHit, Bool.and_eq_true, instBreakPoint, breakMatch_iff, masked]
    simp only [Nat.shiftRight_eq_div_pow, Nat.reducePow]
    rfl

end Sys2Proof.Machine
end

section
/-! PROOF. The fields of the words the encoder writes, and from them that the decoder reads each instruction back from
its encoding (30_encoding.md R294 to R299). -/

namespace Sys2Proof

/-! ## One spelling for the fields -/

@[simp] theorem fieldSrc1_eq (w : Word) : fieldSrc1 w = bitsOf w 0 6 := rfl
@[simp] theorem fieldSrc2_eq (w : Word) : fieldSrc2 w = bitsOf w 6 6 := rfl
@[simp] theorem fieldDest_eq (w : Word) : fieldDest w = bitsOf w 12 6 := rfl
@[simp] theorem fieldIdest_eq (w : Word) : fieldIdest w = bitsOf w 6 6 := rfl
@[simp] theorem fieldBdest_eq (w : Word) : fieldBdest w = bitsOf w 18 3 := rfl
@[simp] theorem fieldIbdest_eq (w : Word) : fieldIbdest w = bitsOf w 6 3 := rfl
@[simp] theorem fieldScond_eq (w : Word) : fieldScond w = bitsOf w 21 3 := rfl
@[simp] theorem fieldBcond_eq (w : Word) : fieldBcond w = bitsOf w 23 3 := rfl
@[simp] theorem fieldIsrc2_eq (w : Word) : fieldIsrc2 w = bitsOf w 12 9 := rfl
@[simp] theorem fieldImm_eq (w : Word) : fieldImm w = bitsOf w 0 23 := rfl
@[simp] theorem fieldSbrknum_eq (w : Word) : fieldSbrknum w = bitsOf w 0 21 := rfl

theorem needZero_eq_ok {w : Word} {lo n : Nat} {row : String} {i j : Instr} :
    needZero w lo n row i = .ok j ↔ bitsOf w lo n = 0#n ∧ i = j := by
  unfold needZero
  split <;> simp_all

/-! ## The fields of each format -/

@[simp] theorem bitsOf_encInt3R (op : BitVec 5) (d s2 s1 : GReg) :
    bitsOf (encInt3R op d s2 s1) 30 1 = 0#1 ∧ bitsOf (encInt3R op d s2 s1) 28 2 = 0#2 ∧
    bitsOf (encInt3R op d s2 s1) 26 2 = 0#2 ∧ bitsOf (encInt3R op d s2 s1) 21 5 = op ∧
    bitsOf (encInt3R op d s2 s1) 18 3 = 0#3 ∧ bitsOf (encInt3R op d s2 s1) 12 6 = d ∧
    bitsOf (encInt3R op d s2 s1) 6 6 = s2 ∧ bitsOf (encInt3R op d s2 s1) 0 6 = s1 := by
  simp only [bitsOf, encInt3R, BitVec.extractLsb'_append_eq_ite]; simp

@[simp] theorem bitsOf_encInt3I (op : BitVec 5) (i : Imm9) (d s1 : GReg) :
    bitsOf (encInt3I op i d s1) 30 1 = 0#1 ∧ bitsOf (encInt3I op i d s1) 28 2 = 0#2 ∧
    bitsOf (encInt3I op i d s1) 26 2 = 2#2 ∧ bitsOf (encInt3I op i d s1) 21 5 = op ∧
    bitsOf (encInt3I op i d s1) 12 9 = i ∧ bitsOf (encInt3I op i d s1) 6 6 = d ∧
    bitsOf (encInt3I op i d s1) 0 6 = s1 := by
  simp only [bitsOf, encInt3I, BitVec.extractLsb'_append_eq_ite]; simp

@[simp] theorem bitsOf_encMonadic (sub : BitVec 9) (d s1 : GReg) :
    bitsOf (encMonadic sub d s1) 30 1 = 0#1 ∧ bitsOf (encMonadic sub d s1) 28 2 = 0#2 ∧
    bitsOf (encMonadic sub d s1) 26 2 = 2#2 ∧ bitsOf (encMonadic sub d s1) 21 5 = 14#5 ∧
    bitsOf (encMonadic sub d s1) 12 9 = sub ∧ bitsOf (encMonadic sub d s1) 6 6 = d ∧
    bitsOf (encMonadic sub d s1) 0 6 = s1 := by
  simp only [bitsOf, encMonadic, BitVec.extractLsb'_append_eq_ite]; simp

@[simp] theorem bitsOf_encCmpRR (op : BitVec 5) (d s2 s1 : GReg) :
    bitsOf (encCmpRR op d s2 s1) 30 1 = 0#1 ∧ bitsOf (encCmpRR op d s2 s1) 28 2 = 0#2 ∧
    bitsOf (encCmpRR op d s2 s1) 26 2 = 1#2 ∧ bitsOf (encCmpRR op d s2 s1) 21 5 = op ∧
    bitsOf (encCmpRR op d s2 s1) 18 3 = 0#3 ∧ bitsOf (encCmpRR op d s2 s1) 12 6 = d ∧
    bitsOf (encCmpRR op d s2 s1) 6 6 = s2 ∧ bitsOf (encCmpRR op d s2 s1) 0 6 = s1 := by
  simp only [bitsOf, encCmpRR, BitVec.extractLsb'_append_eq_ite]; simp

@[simp] theorem bitsOf_encCmpBR (op : BitVec 5) (b : BReg) (s2 s1 : GReg) :
    bitsOf (encCmpBR op b s2 s1) 30 1 = 0#1 ∧ bitsOf (encCmpBR op b s2 s1) 28 2 = 0#2 ∧
    bitsOf (encCmpBR op b s2 s1) 26 2 = 1#2 ∧ bitsOf (encCmpBR op b s2 s1) 21 5 = op ∧
    bitsOf (encCmpBR op b s2 s1) 18 3 = b ∧ bitsOf (encCmpBR op b s2 s1) 12 6 = 0#6 ∧
    bitsOf (encCmpBR op b s2 s1) 6 6 = s2 ∧ bitsOf (encCmpBR op b s2 s1) 0 6 = s1 := by
  simp only [bitsOf, encCmpBR, BitVec.extractLsb'_append_eq_ite]; simp

@[simp] theorem bitsOf_encCmpRI (op : BitVec 5) (i : Imm9) (d s1 : GReg) :
    bitsOf (encCmpRI op i d s1) 30 1 = 0#1 ∧ bitsOf (encCmpRI op i d s1) 28 2 = 0#2 ∧
    bitsOf (encCmpRI op i d s1) 26 2 = 3#2 ∧ bitsOf (encCmpRI op i d s1) 21 5 = op ∧
    bitsOf (encCmpRI op i d s1) 12 9 = i ∧ bitsOf (encCmpRI op i d s1) 6 6 = d ∧
    bitsOf (encCmpRI op i d s1) 0 6 = s1 := by
  simp only [bitsOf, encCmpRI, BitVec.extractLsb'_append_eq_ite]; simp

@[simp] theorem bitsOf_encCmpBI (op : BitVec 5) (i : Imm9) (b : BReg) (s1 : GReg) :
    bitsOf (encCmpBI op i b s1) 30 1 = 0#1 ∧ bitsOf (encCmpBI op i b s1) 28 2 = 0#2 ∧
    bitsOf (encCmpBI op i b s1) 26 2 = 3#2 ∧ bitsOf (encCmpBI op i b s1) 21 5 = op ∧
    bitsOf (encCmpBI op i b s1) 12 9 = i ∧ bitsOf (encCmpBI op i b s1) 9 3 = 0#3 ∧
    bitsOf (encCmpBI op i b s1) 6 3 = b ∧ bitsOf (encCmpBI op i b s1) 0 6 = s1 := by
  simp only [bitsOf, encCmpBI, BitVec.extractLsb'_append_eq_ite]; simp

@[simp] theorem bitsOf_encSelR (op : BitVec 4) (c : BReg) (d s2 s1 : GReg) :
    bitsOf (encSelR op c d s2 s1) 30 1 = 0#1 ∧ bitsOf (encSelR op c d s2 s1) 28 2 = 1#2 ∧
    bitsOf (encSelR op c d s2 s1) 24 4 = op ∧ bitsOf (encSelR op c d s2 s1) 21 3 = c ∧
    bitsOf (encSelR op c d s2 s1) 18 3 = 0#3 ∧ bitsOf (encSelR op c d s2 s1) 12 6 = d ∧
    bitsOf (encSelR op c d s2 s1) 6 6 = s2 ∧ bitsOf (encSelR op c d s2 s1) 0 6 = s1 := by
  simp only [bitsOf, encSelR, BitVec.extractLsb'_append_eq_ite]; simp

@[simp] theorem bitsOf_encSelI (op : BitVec 4) (c : BReg) (i : Imm9) (d s1 : GReg) :
    bitsOf (encSelI op c i d s1) 30 1 = 0#1 ∧ bitsOf (encSelI op c i d s1) 28 2 = 1#2 ∧
    bitsOf (encSelI op c i d s1) 24 4 = op ∧ bitsOf (encSelI op c i d s1) 21 3 = c ∧
    bitsOf (encSelI op c i d s1) 12 9 = i ∧ bitsOf (encSelI op c i d s1) 6 6 = d ∧
    bitsOf (encSelI op c i d s1) 0 6 = s1 := by
  simp only [bitsOf, encSelI, BitVec.extractLsb'_append_eq_ite]; simp

@[simp] theorem bitsOf_encCgen (op : BitVec 4) (c b : BReg) (d s2 s1 : GReg) :
    bitsOf (encCgen op c b d s2 s1) 30 1 = 0#1 ∧ bitsOf (encCgen op c b d s2 s1) 28 2 = 1#2 ∧
    bitsOf (encCgen op c b d s2 s1) 24 4 = op ∧ bitsOf (encCgen op c b d s2 s1) 21 3 = c ∧
    bitsOf (encCgen op c b d s2 s1) 18 3 = b ∧ bitsOf (encCgen op c b d s2 s1) 12 6 = d ∧
    bitsOf (encCgen op c b d s2 s1) 6 6 = s2 ∧ bitsOf (encCgen op c b d s2 s1) 0 6 = s1 := by
  simp only [bitsOf, encCgen, BitVec.extractLsb'_append_eq_ite]; simp

@[simp] theorem bitsOf_encImm (op : BitVec 5) (x : Imm23) :
    bitsOf (encImm op x) 30 1 = 0#1 ∧ bitsOf (encImm op x) 28 2 = 1#2 ∧
    bitsOf (encImm op x) 24 4 = op.extractLsb' 1 4 ∧ bitsOf (encImm op x) 23 1 = op.extractLsb' 0 1 ∧
    bitsOf (encImm op x) 0 23 = x := by
  simp only [bitsOf, encImm, BitVec.extractLsb'_append_eq_ite]; simp

@[simp] theorem bitsOf_encSys (stop : BitVec 1) (op : BitVec 7) (n : Imm21) :
    bitsOf (encSys stop op n) 31 1 = stop ∧ bitsOf (encSys stop op n) 30 1 = 0#1 ∧
    bitsOf (encSys stop op n) 28 2 = 1#2 ∧ bitsOf (encSys stop op n) 24 4 = op.extractLsb' 3 4 ∧
    bitsOf (encSys stop op n) 21 3 = op.extractLsb' 0 3 ∧ bitsOf (encSys stop op n) 0 21 = n := by
  simp only [bitsOf, encSys, BitVec.extractLsb'_append_eq_ite]; simp

@[simp] theorem bitsOf_encMem (op : BitVec 5) (i : Imm9) (m s1 : GReg) :
    bitsOf (encMem op i m s1) 30 1 = 0#1 ∧ bitsOf (encMem op i m s1) 28 2 = 2#2 ∧
    bitsOf (encMem op i m s1) 23 5 = op ∧ bitsOf (encMem op i m s1) 21 2 = 0#2 ∧
    bitsOf (encMem op i m s1) 12 9 = i ∧ bitsOf (encMem op i m s1) 6 6 = m ∧
    bitsOf (encMem op i m s1) 0 6 = s1 ∧ bitsOf (encMem op i m s1) 0 21 = i ++ m ++ s1 := by
  simp only [bitsOf, encMem, BitVec.extractLsb'_append_eq_ite]; simp

@[simp] theorem bitsOf_encCall (op : BitVec 5) (t : Imm23) :
    bitsOf (encCall op t) 30 1 = 0#1 ∧ bitsOf (encCall op t) 28 2 = 3#2 ∧
    bitsOf (encCall op t) 27 1 = op.extractLsb' 4 1 ∧
    bitsOf (encCall op t) 26 2 = op.extractLsb' 3 2 ∧ bitsOf (encCall op t) 23 4 = op.extractLsb' 0 4 ∧
    bitsOf (encCall op t) 0 23 = t := by
  simp only [bitsOf, encCall, BitVec.extractLsb'_append_eq_ite]; simp

@[simp] theorem bitsOf_encBranch (op : BitVec 2) (c : BReg) (t : Imm23) :
    bitsOf (encBranch op c t) 30 1 = 0#1 ∧ bitsOf (encBranch op c t) 28 2 = 3#2 ∧
    bitsOf (encBranch op c t) 26 2 = op ∧ bitsOf (encBranch op c t) 23 3 = c ∧
    bitsOf (encBranch op c t) 0 23 = t := by
  simp only [bitsOf, encBranch, BitVec.extractLsb'_append_eq_ite]; simp

/-! ## Decoding what the encoder writes -/

theorem decodeSyllable_encInt3R (op : BitVec 5) (d s2 s1 : GReg) :
    decodeSyllable (encInt3R op d s2 s1) = decodeInt3R (encInt3R op d s2 s1) := by
  simp [decodeSyllable, decodeFormat00]

theorem decodeSyllable_encInt3I (op : BitVec 5) (i : Imm9) (d s1 : GReg) :
    decodeSyllable (encInt3I op i d s1) = decodeInt3I (encInt3I op i d s1) := by
  simp [decodeSyllable, decodeFormat00]

theorem decodeSyllable_encMonadic (sub : BitVec 9) (d s1 : GReg) :
    decodeSyllable (encMonadic sub d s1) = decodeMonadic (encMonadic sub d s1) := by
  simp [decodeSyllable, decodeFormat00, decodeInt3I]

theorem decodeSyllable_encCmpRR (op : BitVec 5) (d s2 s1 : GReg) :
    decodeSyllable (encCmpRR op d s2 s1) = decodeCmpR (encCmpRR op d s2 s1) := by
  simp [decodeSyllable, decodeFormat00]

theorem decodeSyllable_encCmpBR (op : BitVec 5) (b : BReg) (s2 s1 : GReg) :
    decodeSyllable (encCmpBR op b s2 s1) = decodeCmpR (encCmpBR op b s2 s1) := by
  simp [decodeSyllable, decodeFormat00]

theorem decodeSyllable_encCmpRI (op : BitVec 5) (i : Imm9) (d s1 : GReg) :
    decodeSyllable (encCmpRI op i d s1) = decodeCmpI (encCmpRI op i d s1) := by
  simp [decodeSyllable, decodeFormat00]

theorem decodeSyllable_encCmpBI (op : BitVec 5) (i : Imm9) (b : BReg) (s1 : GReg) :
    decodeSyllable (encCmpBI op i b s1) = decodeCmpI (encCmpBI op i b s1) := by
  simp [decodeSyllable, decodeFormat00]

theorem decodeSyllable_encMem (op : BitVec 5) (i : Imm9) (m s1 : GReg) :
    decodeSyllable (encMem op i m s1) = decodeMemory (encMem op i m s1) := by
  simp [decodeSyllable, decodeFormat10]

/-- The instructions by their formats (30_encoding.md R297 to R299); each row finds its own opcode and operands. -/
theorem decodeSyllable_encode (i : Instr) : decodeSyllable (encode i) = .ok i := by
  cases i with
  | addR | subR | shlR | shrR | shruR | sh1addR | sh2addR | sh3addR | sh4addR | andR | andcR | orR | orcR | xorR
  | maxR | maxuR | minR | minuR | mullR | mulluR | mulhR | mulhuR | mulllR | mullluR | mullhR | mullhuR | mulhhR
  | mulhhuR | mulhsR | mulhhsR | mullhusR =>
    simp [encode, decodeSyllable_encInt3R, decodeInt3R, needZero_eq_ok]
  | addI | subI | shlI | shrI | shruI | sh1addI | sh2addI | sh3addI | sh4addI | andI | andcI | orI | orcI | xorI
  | maxI | maxuI | minI | minuI | mullI | mulluI | mulhI | mulhuI | mulllI | mullluI | mullhI | mullhuI | mulhhI
  | mulhhuI | mulhsI | mulhhsI | mullhusI =>
    simp [encode, decodeSyllable_encInt3I, decodeInt3I]
  | sxtb | sxth | bswap | zxth | clz => simp [encode, decodeSyllable_encMonadic, decodeMonadic]
  | cmpeqRR | cmpneRR | cmpgeRR | cmpgeuRR | cmpgtRR | cmpgtuRR | cmpleRR | cmpleuRR | cmpltRR | cmpltuRR | andlRR
  | nandlRR | orlRR | norlRR | mul32R | mul64hR | mul64huR | mulfracR =>
    simp [encode, decodeSyllable_encCmpRR, decodeCmpR, needZero_eq_ok]
  | cmpeqBR | cmpneBR | cmpgeBR | cmpgeuBR | cmpgtBR | cmpgtuBR | cmpleBR | cmpleuBR | cmpltBR | cmpltuBR | andlBR
  | nandlBR | orlBR | norlBR =>
    simp [encode, decodeSyllable_encCmpBR, decodeCmpR, needZero_eq_ok]
  | cmpeqRI | cmpneRI | cmpgeRI | cmpgeuRI | cmpgtRI | cmpgtuRI | cmpleRI | cmpleuRI | cmpltRI | cmpltuRI | andlRI
  | nandlRI | orlRI | norlRI | mul32I | mul64hI | mul64huI | mulfracI =>
    simp [encode, decodeSyllable_encCmpRI, decodeCmpI]
  | cmpeqBI | cmpneBI | cmpgeBI | cmpgeuBI | cmpgtBI | cmpgtuBI | cmpleBI | cmpleuBI | cmpltBI | cmpltuBI | andlBI
  | nandlBI | orlBI | norlBI =>
    simp [encode, decodeSyllable_encCmpBI, decodeCmpI, needZero_eq_ok]
  | slctR | slctfR | slctI | slctfI | addcg | divs | imml | immr =>
    simp [encode, decodeSyllable, decodeFormat01, needZero_eq_ok]
  | prgins | sbrk | syscall | breakOp =>
    simp [encode, decodeSyllable, decodeFormat01, decodeSystem, needZero_eq_ok]
  | ldw | ldwD | ldh | ldhD | ldhu | ldhuD | ldb | ldbD | ldbu | ldbuD | stw | sth | stb | pft | prgadd | prgset | sync
  | prginspg | pswset | pswclr =>
    simp [encode, decodeSyllable_encMem, decodeMemory, needZero_eq_ok]
  | callImm | callLink | gotoImm | gotoLink | rfi | br | brf =>
    simp [encode, decodeSyllable, decodeFormat11, needZero_eq_ok]

end Sys2Proof
end

section
/-! PROOF. Words that differ in the stop bit only, and that the decoder reads no stop bit but that of `sbrk`
(30_encoding.md R290, R321). -/

namespace Sys2Proof

/-! ## Words that differ in the stop bit only -/

/-- The low `k` bits of two words are the same. -/
def AgreeBelow (k : Nat) (v w : Word) : Prop := ∀ j < k, v.getLsbD j = w.getLsbD j

theorem agreeBelow_zero (v w : Word) : AgreeBelow 0 v w := fun _ h => absurd h (Nat.not_lt_zero _)

/-- Words that agree below a field and in it agree up to its end. -/
theorem AgreeBelow.field {v w : Word} {lo n : Nat} (below : AgreeBelow lo v w) (field : bitsOf v lo n = bitsOf w lo n) :
    AgreeBelow (lo + n) v w := by
  intro j hj
  by_cases h : j < lo
  · exact below j h
  · have bit := congrArg (·.getLsbD (j - lo)) field
    have inside : j - lo < n := by omega
    have place : lo + (j - lo) = j := by omega
    simpa [bitsOf, BitVec.getLsbD_extractLsb', inside, place] using bit

theorem AgreeBelow.bitsOf_eq {v w : Word} {k : Nat} (h : AgreeBelow k v w) {lo n : Nat} (inside : lo + n ≤ k) :
    bitsOf v lo n = bitsOf w lo n := by
  apply BitVec.eq_of_getLsbD_eq
  intro j hj
  simp [bitsOf, BitVec.getLsbD_extractLsb', h (lo + j) (by omega)]

theorem getLsbD_or_stop (w : Word) (j : Nat) :
    (w ||| 0x80000000#32).getLsbD j = (w.getLsbD j || decide (j = 31)) := by
  have stop : (0x80000000#32 : Word) = BitVec.twoPow 32 31 := rfl
  rw [stop, BitVec.getLsbD_or, BitVec.getLsbD_twoPow]
  simp [eq_comm]

theorem agreeBelow_or_stop (w : Word) : AgreeBelow 31 w (w ||| 0x80000000#32) := by
  intro j hj
  rw [getLsbD_or_stop]
  simp [Nat.ne_of_lt hj]

theorem or_stop_eq_of_agree {v w : Word} (h : AgreeBelow 31 v w) : v ||| 0x80000000#32 = w ||| 0x80000000#32 := by
  apply BitVec.eq_of_getLsbD_eq
  intro j hj
  rw [getLsbD_or_stop, getLsbD_or_stop]
  by_cases top : j = 31
  · simp [top]
  · rw [h j (by omega)]

/-! ## What the decoder reads -/

section

variable {v w : Word}

theorem decodeFormat00_of_agree (h : AgreeBelow 31 v w) : decodeFormat00 v = decodeFormat00 w := by
  simp (disch := decide) only [decodeFormat00, decodeInt3R, decodeInt3I, decodeMonadic, decodeCmpR, decodeCmpI,
    needZero, fieldSrc1_eq, fieldSrc2_eq, fieldDest_eq, fieldIdest_eq, fieldBdest_eq, fieldIbdest_eq, fieldIsrc2_eq,
    h.bitsOf_eq]

theorem decodeFormat10_of_agree (h : AgreeBelow 31 v w) : decodeFormat10 v = decodeFormat10 w := by
  simp (disch := decide) only [decodeFormat10, decodeMemory, needZero, fieldSrc1_eq, fieldSrc2_eq, fieldIdest_eq,
    fieldIsrc2_eq, h.bitsOf_eq]

theorem decodeFormat11_of_agree (h : AgreeBelow 31 v w) : decodeFormat11 v = decodeFormat11 w := by
  simp (disch := decide) only [decodeFormat11, needZero, fieldBcond_eq, fieldImm_eq, h.bitsOf_eq]

/-- The row of `sbrk` is the only one that reads the stop bit (30_encoding.md R321). -/
theorem decodeSystem_of_agree {i : Instr} (h : AgreeBelow 31 v w) (stop : bitsOf v 31 1 = 1#1 → bitsOf w 31 1 = 1#1)
    (decodes : decodeSystem v = .ok i) : decodeSystem w = .ok i := by
  revert decodes
  simp (disch := decide) only [decodeSystem, needZero, fieldSbrknum_eq, h.bitsOf_eq]
  split
  case h_2 =>
    split
    · simp [stop ‹_›]
    · simp
  all_goals exact id

theorem decodeFormat01_of_agree {i : Instr} (h : AgreeBelow 31 v w) (stop : bitsOf v 31 1 = 1#1 → bitsOf w 31 1 = 1#1)
    (decodes : decodeFormat01 v = .ok i) : decodeFormat01 w = .ok i := by
  revert decodes
  simp (disch := decide) only [decodeFormat01, needZero, fieldSrc1_eq, fieldSrc2_eq, fieldDest_eq, fieldIdest_eq,
    fieldBdest_eq, fieldScond_eq, fieldIsrc2_eq, fieldImm_eq, h.bitsOf_eq]
  split
  case h_8 => exact decodeSystem_of_agree h stop
  all_goals exact id

/-- The decoder reads bits [30:0], and of the stop bit only that `sbrk` has it. -/
theorem decodeSyllable_of_agree {i : Instr} (h : AgreeBelow 31 v w) (stop : bitsOf v 31 1 = 1#1 → bitsOf w 31 1 = 1#1)
    (decodes : decodeSyllable v = .ok i) : decodeSyllable w = .ok i := by
  revert decodes
  simp (disch := decide) only [decodeSyllable, decodeFormat00_of_agree h, decodeFormat10_of_agree h,
    decodeFormat11_of_agree h, h.bitsOf_eq]
  split
  · exact id
  · split
    case h_2 => exact decodeFormat01_of_agree h stop
    all_goals exact id

end

/-- Settles O58: an instruction is decoded from its own encoding, and setting the stop bit changes no bit that the
decoder reads but the one `sbrk` has set already. -/
theorem decodeOfEncodeIsTheInstruction : Obligations.DecodeOfEncodeIsTheInstruction := by
  intro i
  have decodes := decodeSyllable_encode i
  have stop : bitsOf (encode i ||| 0x80000000#32) 31 1 = 1#1 := by
    ext j hj
    obtain rfl : j = 0 := by omega
    simp [bitsOf]
  exact ⟨decodes, decodeSyllable_of_agree (agreeBelow_or_stop _) (fun _ => stop) decodes⟩

end Sys2Proof
end

section
/-! PROOF. A word that decodes has, field by field, the bits the encoder writes for its instruction: no bit is ignored
(30_encoding.md R306, R313). -/

namespace Sys2Proof

/-! ## Words field by field -/

/-- Two words agree in successive fields of widths `ns`, the first of which begins at bit `lo`. -/
def AgreeFields (v w : Word) (lo : Nat) (ns : List Nat) : Prop :=
  match ns with
  | [] => True
  | n :: rest => bitsOf v lo n = bitsOf w lo n ∧ AgreeFields v w (lo + n) rest

theorem AgreeBelow.fields {v w : Word} {lo : Nat} {ns : List Nat} (below : AgreeBelow lo v w)
    (h : AgreeFields v w lo ns) : AgreeBelow (lo + ns.sum) v w := by
  induction ns generalizing lo with
  | nil => simpa using below
  | cons n ns ih =>
    obtain ⟨first, rest⟩ := h
    simpa [Nat.add_assoc] using ih (below.field first) rest

/-- Two words that agree in every field of a format agree in all bits but the stop bit. -/
theorem agree_of_fields {v w : Word} (ns : List Nat) (total : ns.sum = 31) (h : AgreeFields v w 0 ns) :
    AgreeBelow 31 v w := by
  have all := (agreeBelow_zero v w).fields h
  rwa [total] at all

theorem eq_three_of_ne {x : BitVec 2} (h0 : x.toNat = 0 → False) (h1 : x.toNat = 1 → False)
    (h2 : x.toNat = 2 → False) : x = 3#2 := by
  revert x
  decide

/-- Format 11 leaves `br` and `brf` aside by bits [27:26], of which bit 27 is then clear. -/
theorem bit27_of_not_branch {w : Word} (br : (bitsOf w 26 2).toNat = 2 → False)
    (brf : (bitsOf w 26 2).toNat = 3 → False) : bitsOf w 27 1 = 0#1 := by
  have part : bitsOf w 27 1 = (bitsOf w 26 2).extractLsb' 1 1 := by
    ext j hj
    obtain rfl : j = 0 := by omega
    simp [bitsOf]
  rw [part]
  generalize bitsOf w 26 2 = x at br brf
  revert x
  decide

section

variable {w : Word} (clear : bitsOf w 30 1 = 0#1)
include clear

section

variable (format : bitsOf w 28 2 = 0#2)
include format

theorem agree_encInt3R {op : BitVec 5} (group : bitsOf w 26 2 = 0#2) (opcode : bitsOf w 21 5 = op)
    (reserved : bitsOf w 18 3 = 0#3) :
    AgreeBelow 31 (encInt3R op (fieldDest w) (fieldSrc2 w) (fieldSrc1 w)) w :=
  agree_of_fields [6, 6, 6, 3, 5, 2, 2, 1] rfl (by simp [AgreeFields, clear, format, group, opcode, reserved])

theorem agree_encInt3I {op : BitVec 5} (group : bitsOf w 26 2 = 2#2) (opcode : bitsOf w 21 5 = op) :
    AgreeBelow 31 (encInt3I op (fieldIsrc2 w) (fieldIdest w) (fieldSrc1 w)) w :=
  agree_of_fields [6, 6, 9, 5, 2, 2, 1] rfl (by simp [AgreeFields, clear, format, group, opcode])

theorem agree_encMonadic {sub : BitVec 9} (group : bitsOf w 26 2 = 2#2) (opcode : bitsOf w 21 5 = 14#5)
    (subOpcode : bitsOf w 12 9 = sub) : AgreeBelow 31 (encMonadic sub (fieldIdest w) (fieldSrc1 w)) w :=
  agree_of_fields [6, 6, 9, 5, 2, 2, 1] rfl (by simp [AgreeFields, clear, format, group, opcode, subOpcode])

theorem agree_encCmpRR {op : BitVec 5} (group : bitsOf w 26 2 = 1#2) (opcode : bitsOf w 21 5 = op)
    (reserved : bitsOf w 18 3 = 0#3) :
    AgreeBelow 31 (encCmpRR op (fieldDest w) (fieldSrc2 w) (fieldSrc1 w)) w :=
  agree_of_fields [6, 6, 6, 3, 5, 2, 2, 1] rfl (by simp [AgreeFields, clear, format, group, opcode, reserved])

theorem agree_encCmpBR {op : BitVec 5} (group : bitsOf w 26 2 = 1#2) (opcode : bitsOf w 21 5 = op)
    (reserved : bitsOf w 12 6 = 0#6) :
    AgreeBelow 31 (encCmpBR op (fieldBdest w) (fieldSrc2 w) (fieldSrc1 w)) w :=
  agree_of_fields [6, 6, 6, 3, 5, 2, 2, 1] rfl (by simp [AgreeFields, clear, format, group, opcode, reserved])

theorem agree_encCmpRI {op : BitVec 5} (group : bitsOf w 26 2 = 3#2) (opcode : bitsOf w 21 5 = op) :
    AgreeBelow 31 (encCmpRI op (fieldIsrc2 w) (fieldIdest w) (fieldSrc1 w)) w :=
  agree_of_fields [6, 6, 9, 5, 2, 2, 1] rfl (by simp [AgreeFields, clear, format, group, opcode])

theorem agree_encCmpBI {op : BitVec 5} (group : bitsOf w 26 2 = 3#2) (opcode : bitsOf w 21 5 = op)
    (reserved : bitsOf w 9 3 = 0#3) :
    AgreeBelow 31 (encCmpBI op (fieldIsrc2 w) (fieldIbdest w) (fieldSrc1 w)) w :=
  agree_of_fields [6, 3, 3, 9, 5, 2, 2, 1] rfl (by simp [AgreeFields, clear, format, group, opcode, reserved])

theorem decodeInt3R_agrees (group : bitsOf w 26 2 = 0#2) {i : Instr} (h : decodeInt3R w = .ok i) :
    AgreeBelow 31 (encode i) w := by
  unfold decodeInt3R at h
  split at h
  case h_32 => cases h
  all_goals
    obtain ⟨reserved, rfl⟩ := needZero_eq_ok.1 h
    exact agree_encInt3R clear format group (BitVec.eq_of_toNat_eq ‹_›) reserved

theorem decodeMonadic_agrees (group : bitsOf w 26 2 = 2#2) (opcode : bitsOf w 21 5 = 14#5) {i : Instr}
    (h : decodeMonadic w = .ok i) : AgreeBelow 31 (encode i) w := by
  unfold decodeMonadic at h
  split at h
  case h_6 => cases h
  all_goals
    cases h
    exact agree_encMonadic clear format group opcode (BitVec.eq_of_toNat_eq ‹_›)

theorem decodeInt3I_agrees (group : bitsOf w 26 2 = 2#2) {i : Instr} (h : decodeInt3I w = .ok i) :
    AgreeBelow 31 (encode i) w := by
  unfold decodeInt3I at h
  split at h
  case h_33 => cases h
  case h_15 => exact decodeMonadic_agrees clear format group (BitVec.eq_of_toNat_eq ‹_›) h
  all_goals
    cases h
    exact agree_encInt3I clear format group (BitVec.eq_of_toNat_eq ‹_›)

theorem decodeCmpR_agrees (group : bitsOf w 26 2 = 1#2) {i : Instr} (h : decodeCmpR w = .ok i) :
    AgreeBelow 31 (encode i) w := by
  unfold decodeCmpR at h
  split at h
  case h_33 => cases h
  case h_17 | h_18 | h_19 | h_20 | h_21 | h_22 | h_23 | h_24 | h_25 | h_26 | h_27 | h_28 | h_29 | h_30 =>
    obtain ⟨reserved, rfl⟩ := needZero_eq_ok.1 h
    exact agree_encCmpBR clear format group (BitVec.eq_of_toNat_eq ‹_›) reserved
  all_goals
    obtain ⟨reserved, rfl⟩ := needZero_eq_ok.1 h
    exact agree_encCmpRR clear format group (BitVec.eq_of_toNat_eq ‹_›) reserved

theorem decodeCmpI_agrees (group : bitsOf w 26 2 = 3#2) {i : Instr} (h : decodeCmpI w = .ok i) :
    AgreeBelow 31 (encode i) w := by
  unfold decodeCmpI at h
  split at h
  case h_33 => cases h
  case h_17 | h_18 | h_19 | h_20 | h_21 | h_22 | h_23 | h_24 | h_25 | h_26 | h_27 | h_28 | h_29 | h_30 =>
    obtain ⟨reserved, rfl⟩ := needZero_eq_ok.1 h
    exact agree_encCmpBI clear format group (BitVec.eq_of_toNat_eq ‹_›) reserved
  all_goals
    cases h
    exact agree_encCmpRI clear format group (BitVec.eq_of_toNat_eq ‹_›)

theorem decodeFormat00_agrees {i : Instr} (h : decodeFormat00 w = .ok i) : AgreeBelow 31 (encode i) w := by
  unfold decodeFormat00 at h
  split at h
  · exact decodeInt3R_agrees clear format (BitVec.eq_of_toNat_eq ‹_›) h
  · exact decodeCmpR_agrees clear format (BitVec.eq_of_toNat_eq ‹_›) h
  · exact decodeInt3I_agrees clear format (BitVec.eq_of_toNat_eq ‹_›) h
  · exact decodeCmpI_agrees clear format (eq_three_of_ne ‹_› ‹_› ‹_›) h

end

section

variable (format : bitsOf w 28 2 = 1#2)
include format

theorem agree_encSelR {op : BitVec 4} (opcode : bitsOf w 24 4 = op) (reserved : bitsOf w 18 3 = 0#3) :
    AgreeBelow 31 (encSelR op (fieldScond w) (fieldDest w) (fieldSrc2 w) (fieldSrc1 w)) w :=
  agree_of_fields [6, 6, 6, 3, 3, 4, 2, 1] rfl (by simp [AgreeFields, clear, format, opcode, reserved])

theorem agree_encSelI {op : BitVec 4} (opcode : bitsOf w 24 4 = op) :
    AgreeBelow 31 (encSelI op (fieldScond w) (fieldIsrc2 w) (fieldIdest w) (fieldSrc1 w)) w :=
  agree_of_fields [6, 6, 9, 3, 4, 2, 1] rfl (by simp [AgreeFields, clear, format, opcode])

theorem agree_encCgen {op : BitVec 4} (opcode : bitsOf w 24 4 = op) :
    AgreeBelow 31 (encCgen op (fieldScond w) (fieldBdest w) (fieldDest w) (fieldSrc2 w) (fieldSrc1 w)) w :=
  agree_of_fields [6, 6, 6, 3, 3, 4, 2, 1] rfl (by simp [AgreeFields, clear, format, opcode])

theorem agree_encImm {op : BitVec 5} (group : bitsOf w 24 4 = op.extractLsb' 1 4)
    (side : bitsOf w 23 1 = op.extractLsb' 0 1) : AgreeBelow 31 (encImm op (fieldImm w)) w :=
  agree_of_fields [23, 1, 4, 2, 1] rfl (by simp [AgreeFields, clear, format, group, side])

theorem agree_encSys (stop : BitVec 1) {op : BitVec 7} {n : Imm21} (group : bitsOf w 24 4 = op.extractLsb' 3 4)
    (opcode : bitsOf w 21 3 = op.extractLsb' 0 3) (number : bitsOf w 0 21 = n) : AgreeBelow 31 (encSys stop op n) w :=
  agree_of_fields [21, 3, 4, 2, 1] rfl (by simp [AgreeFields, clear, format, group, opcode, number])

theorem decodeSystem_agrees (group : bitsOf w 24 4 = 15#4) {i : Instr} (h : decodeSystem w = .ok i) :
    AgreeBelow 31 (encode i) w := by
  unfold decodeSystem at h
  split at h
  · obtain ⟨reserved, rfl⟩ := needZero_eq_ok.1 h
    exact agree_encSys clear format _ group (BitVec.eq_of_toNat_eq ‹_›) reserved
  · split at h
    · cases h
      exact agree_encSys clear format _ group (BitVec.eq_of_toNat_eq ‹_›) rfl
    · cases h
  · cases h
    exact agree_encSys clear format _ group (BitVec.eq_of_toNat_eq ‹_›) rfl
  · obtain ⟨reserved, rfl⟩ := needZero_eq_ok.1 h
    exact agree_encSys clear format _ group (BitVec.eq_of_toNat_eq ‹_›) reserved
  · cases h

theorem decodeFormat01_agrees {i : Instr} (h : decodeFormat01 w = .ok i) : AgreeBelow 31 (encode i) w := by
  unfold decodeFormat01 at h
  split at h
  case h_1 | h_2 =>
    obtain ⟨reserved, rfl⟩ := needZero_eq_ok.1 h
    exact agree_encSelR clear format (BitVec.eq_of_toNat_eq ‹_›) reserved
  case h_3 | h_4 =>
    cases h
    exact agree_encCgen clear format (BitVec.eq_of_toNat_eq ‹_›)
  case h_5 =>
    split at h
    · cases h
      exact agree_encImm clear format (BitVec.eq_of_toNat_eq ‹_›) ‹_›
    · cases h
      exact agree_encImm clear format (BitVec.eq_of_toNat_eq ‹_›) (BitVec.eq_zero_or_eq_one _ |>.resolve_right ‹_›)
  case h_6 | h_7 =>
    cases h
    exact agree_encSelI clear format (BitVec.eq_of_toNat_eq ‹_›)
  case h_8 => exact decodeSystem_agrees clear format (BitVec.eq_of_toNat_eq ‹_›) h
  case h_9 => cases h

end

section

variable (format : bitsOf w 28 2 = 2#2)
include format

theorem agree_encMem {op : BitVec 5} {i : Imm9} {m s1 : GReg} (opcode : bitsOf w 23 5 = op)
    (reserved : bitsOf w 21 2 = 0#2) (hi : bitsOf w 12 9 = i) (hm : bitsOf w 6 6 = m) (hs : bitsOf w 0 6 = s1) :
    AgreeBelow 31 (encMem op i m s1) w :=
  agree_of_fields [6, 6, 9, 2, 5, 2, 1] rfl (by simp [AgreeFields, clear, format, opcode, reserved, hi, hm, hs])

theorem decodeFormat10_agrees {i : Instr} (h : decodeFormat10 w = .ok i) : AgreeBelow 31 (encode i) w := by
  unfold decodeFormat10 at h
  split at h
  case isFalse => cases h
  rename_i reserved
  unfold decodeMemory at h
  split at h
  case h_14 | h_15 | h_16 | h_18 =>
    obtain ⟨unused, rfl⟩ := needZero_eq_ok.1 h
    exact agree_encMem clear format (BitVec.eq_of_toNat_eq ‹_›) reserved rfl unused rfl
  case h_17 =>
    obtain ⟨unused, rfl⟩ := needZero_eq_ok.1 h
    have opcode : bitsOf w 23 5 = 16#5 := BitVec.eq_of_toNat_eq ‹_›
    exact agree_of_fields [21, 2, 5, 2, 1] rfl (by simp [AgreeFields, encode, clear, format, opcode, reserved, unused])
  case h_19 | h_20 =>
    split at h
    · obtain ⟨unused, rfl⟩ := needZero_eq_ok.1 h
      exact agree_encMem clear format (BitVec.eq_of_toNat_eq ‹_›) reserved unused rfl ‹_›
    · cases h
  case h_21 => cases h
  all_goals
    cases h
    exact agree_encMem clear format (BitVec.eq_of_toNat_eq ‹_›) reserved rfl rfl rfl

end

section

variable (format : bitsOf w 28 2 = 3#2)
include format

theorem agree_encCall {op : BitVec 5} {t : Imm23} (call : bitsOf w 27 1 = op.extractLsb' 4 1)
    (opcode : bitsOf w 23 4 = op.extractLsb' 0 4) (target : bitsOf w 0 23 = t) : AgreeBelow 31 (encCall op t) w :=
  agree_of_fields [23, 4, 1, 2, 1] rfl (by simp [AgreeFields, clear, format, call, opcode, target])

theorem agree_encBranch {op : BitVec 2} (opcode : bitsOf w 26 2 = op) :
    AgreeBelow 31 (encBranch op (fieldBcond w) (fieldImm w)) w :=
  agree_of_fields [23, 3, 2, 2, 1] rfl (by simp [AgreeFields, clear, format, opcode])

theorem decodeFormat11_agrees {i : Instr} (h : decodeFormat11 w = .ok i) : AgreeBelow 31 (encode i) w := by
  unfold decodeFormat11 at h
  split at h
  case h_1 | h_2 =>
    cases h
    exact agree_encBranch clear format (BitVec.eq_of_toNat_eq ‹_›)
  case h_3 br brf =>
    have call : bitsOf w 27 1 = 0#1 := bit27_of_not_branch br brf
    split at h
    case h_1 | h_3 =>
      cases h
      exact agree_encCall clear format call (BitVec.eq_of_toNat_eq ‹_›) rfl
    case h_2 | h_4 | h_5 =>
      obtain ⟨unused, rfl⟩ := needZero_eq_ok.1 h
      exact agree_encCall clear format call (BitVec.eq_of_toNat_eq ‹_›) unused
    case h_6 => cases h

end
end

/-- No bit of a word that decodes is ignored but the stop bit (30_encoding.md R313). -/
theorem decodeSyllable_agrees {w : Word} {i : Instr} (h : decodeSyllable w = .ok i) : AgreeBelow 31 (encode i) w := by
  unfold decodeSyllable at h
  split at h
  case isTrue => cases h
  rename_i set
  have clear : bitsOf w 30 1 = 0#1 := (BitVec.eq_zero_or_eq_one _).resolve_right set
  split at h
  · exact decodeFormat00_agrees clear (BitVec.eq_of_toNat_eq ‹_›) h
  · exact decodeFormat01_agrees clear (BitVec.eq_of_toNat_eq ‹_›) h
  · exact decodeFormat10_agrees clear (BitVec.eq_of_toNat_eq ‹_›) h
  · exact decodeFormat11_agrees clear (eq_three_of_ne ‹_› ‹_› ‹_›) h

/-- Settles O59: a word that decodes has the fields of the encoding of its instruction, in each format. -/
theorem encodeOfDecodeIsTheWord : Obligations.EncodeOfDecodeIsTheWord :=
  fun _ _ h => or_stop_eq_of_agree (decodeSyllable_agrees h)

end Sys2Proof
end

section
/-! PROOF. Immediate extensions: which operation each extends, and the immediate it makes (30_encoding.md R300 to
R302). -/

namespace Sys2Proof.Machine

open Sys2Proof.Rules

theorem imm_toInt_of_none {s : State} (h : s.ext = none) (i : Imm9) : (s.imm i).toInt = i.toInt := by
  rw [State.imm, h]
  exact BitVec.toInt_signExtend_of_le (by decide)

theorem imm_toNat_of_some {s : State} {x : Imm23} (h : s.ext = some x) (i : Imm9) :
    (s.imm i).toNat = x.toNat * 2 ^ 9 + i.toNat := by
  rw [State.imm, h, BitVec.toNat_append, Nat.shiftLeft_eq, Nat.mul_comm]
  exact (Nat.two_pow_add_eq_or_of_lt i.isLt x.toNat).symm

@[simp] theorem bitsOf_extWord (p o : BitVec 1) (x : Imm23) :
    bitsOf (extWord p o x) 30 1 = 0#1 ∧ bitsOf (extWord p o x) 28 2 = 1#2 ∧ bitsOf (extWord p o x) 24 4 = 5#4 ∧
    bitsOf (extWord p o x) 23 1 = o ∧ bitsOf (extWord p o x) 0 23 = x := by
  simp only [bitsOf, extWord, BitVec.extractLsb'_append_eq_ite]; simp

/-- Bit 23 tells `immr` from `imml` (30_encoding.md R301). -/
theorem decodeSyllable_extWord (p o : BitVec 1) (x : Imm23) :
    decodeSyllable (extWord p o x) = .ok (if o = 1#1 then .immr x else .imml x) := by
  obtain rfl | rfl := BitVec.eq_zero_or_eq_one o <;> simp [decodeSyllable, decodeFormat01]

/-- An extension stands beside the operation it extends, `imml` on its right and `immr` on its left. -/
theorem operations_extended (pc : Word) (x : Imm23) {j : Instr} (h : isExtension j = false) :
    operations pc [j, .imml x] = [(j, some (.imml x))] ∧ operations pc [.immr x, j] = [(j, some (.immr x))] := by
  have left : isExtension (.imml x) = true := rfl
  have right : isExtension (.immr x) = true := rfl
  simp [operations, syllables, h, left, right, Syllable.extension]

/-- Settles O12: the immediate in the two cases of its definition, the words of the two extensions by their fields, and
the operation each of them stands beside. -/
theorem immediateExtensionsAndEffectiveAddresses : Obligations.ImmediateExtensionsAndEffectiveAddresses :=
  ⟨fun _ i h => imm_toInt_of_none h i, fun _ _ i h => imm_toNat_of_some h i, fun s a i => ea_eq_add s a i,
    fun p x _ => ⟨decodeSyllable_extWord p 0#1 x, rfl, decodeSyllable_extWord p 1#1 x, rfl⟩,
    fun pc x _ h => ⟨operations_singleton pc h, operations_extended pc x h⟩, fun _ _ _ => ⟨rfl, rfl, rfl⟩⟩

end Sys2Proof.Machine
end

section
/-! PROOF. The fetch of a bundle: its syllables in order up to the first stop bit (30_encoding.md R290, R292). -/

namespace Sys2Proof.Machine

open Sys2Proof.Rules

/-! ## One syllable of external memory -/

/-- With translation off and no stored word on its way, a syllable is the word of external memory (20_memory.md
R144). -/
theorem fetchSyllable_of_readable {s : State} {a : Word} (off : s.psw.getLsbD 2 = false) (stale : s.stale = [])
    (readable : ReadableMemory s a) :
    fetchSyllable s a = .ok (BitVec.ofNat 32 (memNumber s.cfg.bigEndian s.mem a 4)) := by
  obtain ⟨-, -, -, -, -, -, translated⟩ := translation_of_off (a := a) off
  obtain ⟨window, answers⟩ := readable
  have new : memLoad s.cfg.bigEndian s.mem .word a = BitVec.ofNat 32 (memNumber s.cfg.bigEndian s.mem a 4) :=
    memLoad_eq_loadedWord s.cfg.bigEndian s.mem .word a
  simp [fetchSyllable, translated, fetchPhys, window, answers, staleValues, stale, new]

/-! ## The syllables of a bundle -/

theorem syllableAddr_zero (a : Word) : syllableAddr a 0 = a := by simp [syllableAddr]

theorem syllableAddr_succ (a : Word) (k : Nat) : syllableAddr (a + 4#32) k = syllableAddr a (k + 1) := by
  rw [syllableAddr, syllableAddr, BitVec.add_assoc, Nat.mul_succ, Nat.add_comm, BitVec.ofNat_add]

/-- How the fetch of at most `n + 1` syllables goes on after the first. -/
theorem fetchFrom_succ_cases (s : State) (n : Nat) (a : Word) :
    (∃ e, fetchSyllable s a = .error e ∧ fetchFrom s (n + 1) a = ⟨[], some e⟩) ∨
    (∃ w, fetchSyllable s a = .ok w ∧ w.getLsbD 31 = true ∧ fetchFrom s (n + 1) a = ⟨[w], none⟩) ∨
    (∃ w, fetchSyllable s a = .ok w ∧ w.getLsbD 31 = false ∧ fetchFrom s (n + 1) a =
      ⟨w :: (fetchFrom s n (a + 4#32)).words, (fetchFrom s n (a + 4#32)).error⟩) := by
  cases fetched : fetchSyllable s a with
  | error e => exact .inl ⟨e, rfl, by simp [fetchFrom, fetched]⟩
  | ok w =>
    cases stop : stopBit w with
    | true => exact .inr (.inl ⟨w, rfl, stop, by simp [fetchFrom, fetched, stop]⟩)
    | false => exact .inr (.inr ⟨w, rfl, stop, by simp [fetchFrom, fetched, stop]⟩)

theorem fetchFrom_words {s : State} {n k : Nat} {a w : Word} (h : (fetchFrom s n a).words[k]? = some w) :
    fetchSyllable s (syllableAddr a k) = .ok w ∧ k < n := by
  induction n generalizing a k with
  | zero => cases h
  | succ n ih =>
    obtain ⟨e, -, eq⟩ | ⟨v, fetched, -, eq⟩ | ⟨v, fetched, -, eq⟩ := fetchFrom_succ_cases s n a <;> rw [eq] at h
    · cases h
    all_goals cases k with
      | zero =>
        obtain rfl := Option.some.inj h
        exact ⟨by rwa [syllableAddr_zero], n.succ_pos⟩
      | succ k => ?_
    · cases h
    · obtain ⟨rest, lt⟩ := ih h
      exact ⟨by rwa [← syllableAddr_succ], Nat.succ_lt_succ lt⟩

/-- The stop bit ends the fetch (30_encoding.md R292). -/
theorem fetchFrom_stop {s : State} {n k : Nat} {a w : Word} (h : (fetchFrom s n a).words[k]? = some w)
    (stop : w.getLsbD 31 = true) :
    k + 1 = (fetchFrom s n a).words.length ∧ (fetchFrom s n a).error = none := by
  induction n generalizing a k with
  | zero => cases h
  | succ n ih =>
    obtain ⟨e, -, eq⟩ | ⟨v, -, -, eq⟩ | ⟨v, -, clear, eq⟩ := fetchFrom_succ_cases s n a <;> rw [eq] at h ⊢
    · cases h
    · cases k with
      | zero => exact ⟨rfl, rfl⟩
      | succ k => cases h
    · cases k with
      | zero =>
        obtain rfl := Option.some.inj h
        cases clear.symm.trans stop
      | succ k =>
        obtain ⟨last, none⟩ := ih h
        exact ⟨congrArg (· + 1) last, none⟩

theorem fetchFrom_error_iff {s : State} {n : Nat} {a : Word} {e : Raise} : (fetchFrom s n a).error = some e ↔
    (fetchFrom s n a).words.length < n ∧
      fetchSyllable s (syllableAddr a (fetchFrom s n a).words.length) = .error e ∧
      ∀ w ∈ (fetchFrom s n a).words, w.getLsbD 31 = false := by
  induction n generalizing a with
  | zero => simp [fetchFrom]
  | succ n ih =>
    obtain ⟨x, fetched, eq⟩ | ⟨v, fetched, stop, eq⟩ | ⟨v, fetched, clear, eq⟩ := fetchFrom_succ_cases s n a <;> rw [eq]
    · simp [syllableAddr_zero, fetched]
    · simp [stop]
    · have bit : v[31] = false := clear
      simp [ih, syllableAddr_succ, bit]

/-- A fetch without an error has read all it may or met the stop bit. -/
theorem fetchFrom_complete {s : State} {n : Nat} {a : Word} (h : (fetchFrom s n a).error = none) :
    (fetchFrom s n a).words.length = n ∨
      ∃ w, (fetchFrom s n a).words.getLast? = some w ∧ w.getLsbD 31 = true := by
  induction n generalizing a with
  | zero => exact .inl rfl
  | succ n ih =>
    obtain ⟨e, -, eq⟩ | ⟨v, -, stop, eq⟩ | ⟨v, -, -, eq⟩ := fetchFrom_succ_cases s n a <;> rw [eq] at h ⊢
    · cases h
    · exact .inr ⟨v, rfl, stop⟩
    · obtain full | ⟨w, last, stop⟩ := ih h
      · exact .inl (congrArg (· + 1) full)
      · exact .inr ⟨w, by simp [List.getLast?_cons, last], stop⟩

/-- Settles O45, by induction on how many syllables may still be fetched, each time by what the first of them does. -/
theorem bundlesAreFetchedUpToTheStopBit : Obligations.BundlesAreFetchedUpToTheStopBit :=
  ⟨fun _ => ⟨fun _ _ h => fetchFrom_words h, fun _ _ h stop => fetchFrom_stop h stop, fun _ => fetchFrom_error_iff,
    fun h => fetchFrom_complete h⟩,
    fun _ _ off stale readable => fetchSyllable_of_readable off stale readable⟩

end Sys2Proof.Machine
end

section
/-! PROOF. Illegal bundles: what the model takes as a legal bundle the rules call legal, and what the rest raises
(30_encoding.md R310 to R321, 60_exceptions.md R521). -/

namespace Sys2Proof.Machine

open Sys2Proof.Rules

/-! ## Places in a list -/

/-- Two places of a list whose elements are related neither way are the same place. -/
theorem eq_of_pairwise {α : Type} {R : α → α → Prop} {xs : List α} (h : xs.Pairwise R) {j k : Nat} {x y : α}
    (hx : xs[j]? = some x) (hy : xs[k]? = some y) (xy : ¬R x y) (yx : ¬R y x) : j = k := by
  obtain ⟨hj, rfl⟩ := List.getElem?_eq_some_iff.1 hx
  obtain ⟨hk, rfl⟩ := List.getElem?_eq_some_iff.1 hy
  have ordered := List.pairwise_iff_getElem.1 h
  obtain lt | eq | gt := Nat.lt_trichotomy j k
  · exact absurd (ordered j k hj hk lt) xy
  · exact eq
  · exact absurd (ordered k j hk hj gt) yx

theorem eq_of_length_filter {α : Type} {p : α → Bool} {xs : List α} (h : (xs.filter p).length ≤ 1) {j k : Nat} {x y : α}
    (hx : xs[j]? = some x) (hy : xs[k]? = some y) (px : p x = true) (py : p y = true) : j = k := by
  have single : (xs.filter p).Pairwise fun _ _ => False := by
    match xs.filter p, h with
    | [], _ => exact .nil
    | [a], _ => exact List.pairwise_singleton _ a
  exact eq_of_pairwise (List.pairwise_filter.1 single) hx hy (fun r => r px py) (fun r => r py px)

theorem nodup_of_distinct {α : Type} [DecidableEq α] {xs : List α} (h : distinct xs = true) : xs.Nodup := by
  induction xs with
  | nil => exact .nil
  | cons x xs ih =>
    obtain ⟨hx, rest⟩ : x ∉ xs ∧ distinct xs = true := by simpa [distinct] using h
    exact List.nodup_cons.2 ⟨hx, ih rest⟩

theorem eq_of_nodup_filterMap {α β : Type} {f : α → Option β} {xs : List α} (h : (xs.filterMap f).Nodup) {j k : Nat}
    {x y : α} {r : β} (hx : xs[j]? = some x) (hy : xs[k]? = some y) (fx : f x = some r) (fy : f y = some r) : j = k :=
  eq_of_pairwise (List.pairwise_filterMap.1 h) hx hy (fun ne => ne r fx r fy rfl) (fun ne => ne r fy r fx rfl)

/-! ## From the model's checks to the rules -/

theorem operationOf_eq_some {w : Word} {i : Instr} : operationOf w = some i ↔ decodeSyllable w = .ok i := by
  unfold operationOf
  cases decodeSyllable w <;> simp [Except.toOption]

theorem decodes_of_operationsOf {ws : List Word} {is : List Instr} (h : operationsOf ws = some is) :
    ws.map decodeSyllable = is.map Except.ok := by
  induction ws generalizing is with
  | nil =>
    cases h
    rfl
  | cons w ws ih =>
    obtain ⟨i, hi, rest, hrest, rfl⟩ :
        ∃ i, operationOf w = some i ∧ ∃ rest, operationsOf ws = some rest ∧ i :: rest = is := by
      simpa [operationsOf, Option.bind_eq_some_iff] using h
    simp [operationOf_eq_some.1 hi, ih hrest]

section

variable {a : Word} {p n : Option Instr} {i : Instr}

theorem prev_eq_none_of_placeOk (h : placeOk ⟨a, p, i, n⟩ = true)
    (kind : kindOf i = .transfer ∨ kindOf i = .psw ∨ kindOf i = .rfi) : p = none := by
  have first : firstOnly i = true := by obtain kind | kind | kind := kind <;> simp [firstOnly, kind]
  simpa [placeOk, first] using h

theorem odd_of_parityOk (h : parityOk ⟨a, p, i, n⟩ = true) (kind : kindOf i = .multiply) : a.getLsbD 2 = true := by
  simpa only [parityOk, kind, oddWord] using h

theorem even_of_parityOk (h : parityOk ⟨a, p, i, n⟩ = true) (kind : kindOf i = .extLeft ∨ kindOf i = .extRight) :
    a.getLsbD 2 = false := by
  obtain kind | kind := kind <;> simpa only [parityOk, kind, oddWord, Bool.not_eq_true'] using h

theorem prev_of_extensionOk (h : extensionOk ⟨a, p, i, n⟩ = true) (kind : kindOf i = .extLeft) :
    ∃ j, p = some j ∧ extendable j = true := by
  simpa only [extensionOk, kind, Option.any_eq_true] using h

theorem next_of_extensionOk (h : extensionOk ⟨a, p, i, n⟩ = true) (kind : kindOf i = .extRight) :
    ∃ j, n = some j ∧ extendable j = true := by
  simpa only [extensionOk, kind, Option.any_eq_true] using h

/-- No operation has two extensions, an extension least of all, for it cannot be extended itself (R317). -/
theorem extensionOk_between (a : Word) (i : Instr) (x y : Imm23) :
    extensionOk ⟨a, some (.immr x), i, some (.imml y)⟩ = false := by
  unfold extensionOk
  dsimp only
  split <;> rfl

end

theorem placeLegal_of_checks {pc : Word} {is : List Instr} {k : Nat} {i : Instr} (hk : is[k]? = some i)
    (checks : ∀ x ∈ syllables pc none is, (parityOk x && placeOk x && extensionOk x) = true) :
    PlaceLegal pc is k i := by
  have here := checks _ (List.mem_iff_getElem?.2 ⟨k, (getElem?_syllables pc none is k).trans (by rw [hk]; rfl)⟩)
  obtain ⟨⟨parity, place⟩, extension⟩ := by simpa only [Bool.and_eq_true] using here
  refine
    { first := fun kind => ?_
      odd := odd_of_parityOk parity
      even := even_of_parityOk parity
      left := fun kind => ?_
      right := next_of_extensionOk extension
      single := fun x y pos prev next => ?_ }
  · by_contra pos
    have none := prev_eq_none_of_placeOk place kind
    rw [if_neg pos, List.getElem?_eq_none_iff] at none
    have := (List.getElem?_eq_some_iff.1 hk).1
    omega
  · obtain ⟨j, prev, ext⟩ := prev_of_extensionOk extension kind
    split at prev
    · cases prev
    · exact ⟨Nat.pos_of_ne_zero ‹_›, j, prev, ext⟩
  · rw [if_neg (Nat.ne_of_gt pos), prev, next, extensionOk_between] at extension
    cases extension

/-- What the model takes as a legal bundle keeps the rules R311 to R321. -/
theorem legal_of_legalBundle {pc : Word} {ws : List Word} {is : List Instr} (h : legalBundle pc ws = some is) :
    Legal pc ws is := by
  unfold legalBundle at h
  split at h
  case h_2 => cases h
  case h_1 is' decodes =>
    obtain ⟨⟨stop, ops⟩, rfl⟩ : (hasStop ws = true ∧ legalOps pc is' = true) ∧ is' = is := by simpa using h
    simp only [legalOps, destsOk, lsuOk, Bool.and_eq_true, decide_eq_true_eq, List.all_eq_true] at ops
    obtain ⟨⟨⟨⟨formed, unit⟩, alone⟩, general, branch⟩, checks⟩ := ops
    rw [List.filter_filterMap] at general
    refine
      { decodes := decodes_of_operationsOf decodes
        stop := (Option.any_eq_true _ _).1 stop
        formed := formed
        places := fun k i hk => placeLegal_of_checks hk fun x hx => by simpa using checks x hx
        unit := fun j k x y hx hy => eq_of_length_filter unit hx hy
        dests := fun j k x y hx hy same => ?_
        alone := fun i hi kind => ?_ }
    · obtain ⟨r, nonzero, dx, dy⟩ | ⟨b, dx, dy⟩ := same
      · exact eq_of_nodup_filterMap (nodup_of_distinct general) hx hy (r := r) (by simp [dx, nonzero])
          (by simp [dy, nonzero])
      · exact eq_of_nodup_filterMap (nodup_of_distinct branch) hx hy dx dy
    · obtain others | single : (∀ j ∈ is', kindOf j ≠ .alone) ∨ is'.length = 1 := by simpa [aloneOk] using alone
      · exact absurd kind (others i hi)
      · exact single

theorem legalBundle_iff_legal (pc : Word) (ws : List Word) (is : List Instr) :
    legalBundle pc ws = some is ↔ Legal pc ws is :=
  ⟨legal_of_legalBundle, legalBundle_of_legal⟩

/-! ## What an illegal bundle raises -/

theorem kindOf_eq_sbrk_iff {i : Instr} : kindOf i = .sbrk ↔ ∃ n, i = .sbrk n := by
  constructor
  · intro h
    cases i with
    | sbrk n => exact ⟨n, rfl⟩
    | _ => cases h
  · rintro ⟨n, rfl⟩
    rfl

theorem holdsSbrk_iff {ws : List Word} :
    holdsSbrk ws = true ↔ ∃ w ∈ ws, ∃ n, decodeSyllable w = .ok (.sbrk n) := by
  simp only [holdsSbrk, List.any_eq_true, Option.any_eq_true, beq_iff_eq, operationOf_eq_some, kindOf_eq_sbrk_iff]
  constructor
  · rintro ⟨w, hw, i, decodes, n, rfl⟩
    exact ⟨w, hw, n, decodes⟩
  · rintro ⟨w, hw, n, decodes⟩
    exact ⟨w, hw, _, decodes, n, rfl⟩

theorem evalWords_of_illegal {s : State} {ws : List Word} (h : ∀ is, ¬Legal s.pc ws is) :
    evalWords s ws = .next (trapEnd (.plain (if holdsSbrk ws then .sbreak else .illInst)) s) := by
  have illegal : legalBundle s.pc ws = none :=
    Option.eq_none_iff_forall_ne_some.2 fun is eq => h is (legal_of_legalBundle eq)
  rw [evalWords, illegal]

/-- Settles O46: the model's checks are the rules, so that a bundle no list of operations makes legal fails them, and
trap entry writes what the exception records. -/
theorem illegalBundlesRaise : Obligations.IllegalBundlesRaise := by
  refine ⟨legalBundle_iff_legal, fun s ws illegal => ?_⟩
  have ends := evalWords_of_illegal illegal
  by_cases sbrk : holdsSbrk ws = true
  · rw [if_pos sbrk] at ends
    exact ⟨.sbreak, _, ends, raisesPlain_trapEntry rfl s, fun _ => rfl, fun none => absurd (holdsSbrk_iff.1 sbrk) none⟩
  · rw [if_neg sbrk] at ends
    exact ⟨.illInst, _, ends, raisesPlain_trapEntry rfl s, fun some => absurd (holdsSbrk_iff.2 some) sbrk, fun _ => rfl⟩

end Sys2Proof.Machine
end

section
/-! PROOF. The integer operations: words of the formats Int3R, Int3I and Monadic with either stop bit, the results as
operations on words, and the frame of every operation on registers only (40_integer.md R350 to R377). -/

namespace Sys2Proof.Machine

open Sys2Proof.Rules

/-! ## The rows of the integer formats -/

/-- Appending the same field to words whose low bits agree. -/
theorem agree_append {m n l : Nat} {x y : BitVec m} {z : BitVec n} (agree : ∀ j < l - n, x.getLsbD j = y.getLsbD j) :
    ∀ j < l, (x ++ z).getLsbD j = (y ++ z).getLsbD j := by
  intro j hj
  rw [BitVec.getLsbD_append, BitVec.getLsbD_append]
  split
  · rfl
  · exact agree _ (by omega)

theorem agree_int3RWord (p : BitVec 1) (op : BitVec 5) (d b a : GReg) :
    AgreeBelow 31 (encInt3R op d b a) (int3RWord p op d b a) := by
  have clear : encInt3R op d b a = int3RWord 0#1 op d b a := rfl
  rw [clear]
  unfold AgreeBelow int3RWord
  iterate 9 apply agree_append
  exact nofun

theorem agree_int3IWord (p : BitVec 1) (op : BitVec 5) (i : Imm9) (d a : GReg) :
    AgreeBelow 31 (encInt3I op i d a) (int3IWord p op i d a) := by
  have clear : encInt3I op i d a = int3IWord 0#1 op i d a := rfl
  rw [clear]
  unfold AgreeBelow int3IWord
  iterate 8 apply agree_append
  exact nofun

/-- The stop bit is no part of an operation of format 00 (30_encoding.md R290). -/
theorem decodeSyllable_of_format00 {v w : Word} (agree : AgreeBelow 31 v w) (format : bitsOf v 28 2 = 0#2) :
    decodeSyllable w = decodeSyllable v := by
  have format_w : bitsOf w 28 2 = 0#2 := (agree.bitsOf_eq (by decide)).symm.trans format
  have bit30 : bitsOf v 30 1 = bitsOf w 30 1 := agree.bitsOf_eq (by decide)
  have operation : decodeFormat00 v = decodeFormat00 w := decodeFormat00_of_agree agree
  simp only [decodeSyllable, format, format_w, bit30, operation, BitVec.toNat_ofNat, Nat.zero_mod]

theorem decodeSyllable_int3RWord (p : BitVec 1) (op : BitVec 5) (d b a : GReg) :
    decodeSyllable (int3RWord p op d b a) = decodeSyllable (encInt3R op d b a) :=
  decodeSyllable_of_format00 (agree_int3RWord p op d b a) (by simp)

theorem decodeSyllable_int3IWord (p : BitVec 1) (op : BitVec 5) (i : Imm9) (d a : GReg) :
    decodeSyllable (int3IWord p op i d a) = decodeSyllable (encInt3I op i d a) :=
  decodeSyllable_of_format00 (agree_int3IWord p op i d a) (by simp)

/-- The Monadic group is opcode 01110 of Int3I, with the sub-opcode in the place of the immediate (30_encoding.md
R297). -/
theorem monadicWord_eq (p : BitVec 1) (sub : BitVec 9) (d a : GReg) :
    monadicWord p sub d a = int3IWord p 14#5 sub d a := rfl

/-- A row of the integer group, from the value of the model's result, the encodings of its two forms and what `exec`
makes of them. -/
theorem int3Op_of_result {op : BitVec 5} {reg : GReg → GReg → GReg → Instr} {imm : GReg → GReg → Imm9 → Instr}
    {result f : Word → Word → Word} (value : ∀ x y, result x y = f x y)
    (row : ∀ d a b i s, encode (reg d a b) = encInt3R op d b a ∧ encode (imm d a i) = encInt3I op i d a ∧
      exec (reg d a b) s = .next (s.writeR d (result (s.r a) (s.r b))) ∧
      exec (imm d a i) s = .next (s.writeR d (result (s.r a) (s.imm i)))) :
    Int3Op op reg imm f := by
  refine ⟨fun p d a b s => ?_, fun p d a i s => ?_⟩
  · obtain ⟨encodes, -, runs, -⟩ := row d a b 0#9 s
    exact ⟨by rw [decodeSyllable_int3RWord, ← encodes, decodeSyllable_encode], by rw [runs, value]⟩
  · obtain ⟨-, encodes, -, runs⟩ := row d a 0#6 i s
    exact ⟨by rw [decodeSyllable_int3IWord, ← encodes, decodeSyllable_encode], by rw [runs, value]⟩

/-- The same for a row of the Monadic group. -/
theorem monadicOp_of_result {sub : BitVec 9} {mk : GReg → GReg → Instr} {result f : Word → Word}
    (value : ∀ x, result x = f x)
    (row : ∀ d a s, encode (mk d a) = encMonadic sub d a ∧ exec (mk d a) s = .next (s.writeR d (result (s.r a)))) :
    MonadicOp sub mk f := by
  intro p d a s
  obtain ⟨encodes, runs⟩ := row d a s
  have group : encInt3I 14#5 sub d a = encMonadic sub d a := rfl
  exact ⟨by rw [monadicWord_eq, decodeSyllable_int3IWord, group, ← encodes, decodeSyllable_encode], by rw [runs, value]⟩

/-! ## Integers of a word and back (00_scope.md R13) -/

@[simp] theorem reg32_sext32 (x : Word) : reg32 (sext32 x) = x := BitVec.ofInt_toInt

theorem reg32_natCast (n : Nat) : reg32 (n : Int) = BitVec.ofNat 32 n := BitVec.ofInt_natCast 32 n

@[simp] theorem reg32_add (m n : Int) : reg32 (m + n) = reg32 m + reg32 n := BitVec.ofInt_add m n

@[simp] theorem reg32_sub (m n : Int) : reg32 (m - n) = reg32 m - reg32 n := by
  rw [Int.sub_eq_add_neg, reg32_add, BitVec.sub_eq_add_neg]
  exact congrArg _ BitVec.ofInt_neg

/-- A shift left of an integer, the product with a power of two, is that of the word. -/
@[simp] theorem reg32_sal (n : Int) (k : Nat) : reg32 (sal n k) = reg32 n <<< k := by
  have factor : reg32 (2 ^ k) = BitVec.twoPow 32 k := by
    have power := reg32_natCast (2 ^ k)
    push_cast at power
    exact power.trans (BitVec.eq_of_toNat_eq (by simp [BitVec.toNat_twoPow]))
  rw [BitVec.shiftLeft_eq_mul_twoPow, ← factor]
  exact BitVec.ofInt_mul n (2 ^ k)

/-- The floor of the quotient of a signed word by a power of two brings in copies of the sign bit. -/
@[simp] theorem reg32_sar_sext32 (x : Word) (k : Nat) : reg32 (sar (sext32 x) k) = x.sshiftRight k := by
  rw [sar, BitVec.sshiftRight_eq, Int.shiftRight_eq_div_pow]
  rfl

/-- That of an unsigned word brings in zeros. -/
@[simp] theorem reg32_sar_zext32 (x : Word) (k : Nat) : reg32 (sar (zext32 x) k) = x >>> k := by
  have quotient : sar (zext32 x) k = ((x >>> k).toNat : Int) := by simp [sar, zext32, Nat.shiftRight_eq_div_pow]
  rw [quotient, reg32_natCast, BitVec.ofNat_toNat, BitVec.setWidth_eq]

theorem sext32_lt_iff {x y : Word} : sext32 x < sext32 y ↔ x.slt y = true := BitVec.slt_iff_toInt_lt.symm

theorem zext32_lt_iff {x y : Word} : zext32 x < zext32 y ↔ x.ult y = true := by simp [BitVec.ult, zext32]

theorem zext8_eq_distance (y : Word) : zext8 y = distance y := by simp [zext8, distance]

/-! ## Additions, subtraction and shifts (40_integer.md R350 to R358, R377) -/

theorem addResult_eq (x y : Word) : addResult x y = x + y := by simp [addResult]

theorem subResult_eq (x y : Word) : subResult x y = y - x := by simp [subResult]

theorem sh1addResult_eq (x y : Word) : sh1addResult x y = x <<< 1 + y := by simp [sh1addResult]

theorem sh2addResult_eq (x y : Word) : sh2addResult x y = x <<< 2 + y := by simp [sh2addResult]

theorem sh3addResult_eq (x y : Word) : sh3addResult x y = x <<< 3 + y := by simp [sh3addResult]

theorem sh4addResult_eq (x y : Word) : sh4addResult x y = x <<< 4 + y := by simp [sh4addResult]

/-- Settles O1: modulo 2^32 a sum of integers is the sum of their words, and a shift left that of the word. -/
theorem addSubtractAndShiftAddResults : Obligations.AddSubtractAndShiftAddResults :=
  ⟨int3Op_of_result addResult_eq fun _ _ _ _ _ => ⟨rfl, rfl, rfl, rfl⟩,
    int3Op_of_result subResult_eq fun _ _ _ _ _ => ⟨rfl, rfl, rfl, rfl⟩,
    int3Op_of_result sh1addResult_eq fun _ _ _ _ _ => ⟨rfl, rfl, rfl, rfl⟩,
    int3Op_of_result sh2addResult_eq fun _ _ _ _ _ => ⟨rfl, rfl, rfl, rfl⟩,
    int3Op_of_result sh3addResult_eq fun _ _ _ _ _ => ⟨rfl, rfl, rfl, rfl⟩,
    int3Op_of_result sh4addResult_eq fun _ _ _ _ _ => ⟨rfl, rfl, rfl, rfl⟩⟩

theorem shlResult_eq (x y : Word) : shlResult x y = if distance y > 31 then 0#32 else x <<< distance y := by
  rw [shlResult, zext8_eq_distance, reg32_sal, reg32_sext32]
  rfl

theorem shrResult_eq (x y : Word) : shrResult x y = x.sshiftRight (distance y) := by
  rw [shrResult, zext8_eq_distance, reg32_sar_sext32]

theorem shruResult_eq (x y : Word) : shruResult x y = x >>> distance y := by
  rw [shruResult, zext8_eq_distance, reg32_sar_zext32]

/-- Settles O2: each shift of integers is that of words, by the same distance. -/
theorem shiftResults : Obligations.ShiftResults :=
  ⟨int3Op_of_result shlResult_eq fun _ _ _ _ _ => ⟨rfl, rfl, rfl, rfl⟩,
    int3Op_of_result shrResult_eq fun _ _ _ _ _ => ⟨rfl, rfl, rfl, rfl⟩,
    int3Op_of_result shruResult_eq fun _ _ _ _ _ => ⟨rfl, rfl, rfl, rfl⟩⟩

/-! ## Bitwise operations, maximum and minimum (40_integer.md R359 to R367) -/

theorem maxResult_eq (x y : Word) : maxResult x y = if y.slt x then x else y := by
  simp only [maxResult, gt_iff_lt, sext32_lt_iff]

theorem maxuResult_eq (x y : Word) : maxuResult x y = if y.ult x then x else y := by
  simp only [maxuResult, gt_iff_lt, zext32_lt_iff]

theorem minResult_eq (x y : Word) : minResult x y = if x.slt y then x else y := by
  simp only [minResult, sext32_lt_iff]

theorem minuResult_eq (x y : Word) : minuResult x y = if x.ult y then x else y := by
  simp only [minuResult, zext32_lt_iff]

/-- Settles O3: the bitwise results are those of the rules as they stand, and the order of integers is that of their
words. -/
theorem bitwiseAndMaximumMinimumResults : Obligations.BitwiseAndMaximumMinimumResults :=
  ⟨int3Op_of_result (result := andResult) (fun _ _ => rfl) fun _ _ _ _ _ => ⟨rfl, rfl, rfl, rfl⟩,
    int3Op_of_result (result := andcResult) (fun _ _ => rfl) fun _ _ _ _ _ => ⟨rfl, rfl, rfl, rfl⟩,
    int3Op_of_result (result := orResult) (fun _ _ => rfl) fun _ _ _ _ _ => ⟨rfl, rfl, rfl, rfl⟩,
    int3Op_of_result (result := orcResult) (fun _ _ => rfl) fun _ _ _ _ _ => ⟨rfl, rfl, rfl, rfl⟩,
    int3Op_of_result (result := xorResult) (fun _ _ => rfl) fun _ _ _ _ _ => ⟨rfl, rfl, rfl, rfl⟩,
    int3Op_of_result maxResult_eq fun _ _ _ _ _ => ⟨rfl, rfl, rfl, rfl⟩,
    int3Op_of_result maxuResult_eq fun _ _ _ _ _ => ⟨rfl, rfl, rfl, rfl⟩,
    int3Op_of_result minResult_eq fun _ _ _ _ _ => ⟨rfl, rfl, rfl, rfl⟩,
    int3Op_of_result minuResult_eq fun _ _ _ _ _ => ⟨rfl, rfl, rfl, rfl⟩⟩

/-! ## Extensions, byte reversal and leading zeros (40_integer.md R368 to R372) -/

/-- Bit by bit: the masks keep the two bytes in the middle, and every byte of the source lands in one place only. -/
theorem bswapResult_eq (x : Word) :
    bswapResult x = x <<< 24 ||| (x <<< 8 &&& 0x00FF0000#32) ||| (x >>> 8 &&& 0x0000FF00#32) ||| x >>> 24 := by
  apply BitVec.eq_of_getLsbD_eq
  intro j hj
  have upper : (0x00FF0000#32 : Word).getLsbD j = decide (16 ≤ j ∧ j < 24) := by decide +revert
  have lower : (0x0000FF00#32 : Word).getLsbD j = decide (8 ≤ j ∧ j < 16) := by decide +revert
  simp only [bswapResult, BitVec.getLsbD_append, BitVec.getLsbD_extractLsb', BitVec.getLsbD_or, BitVec.getLsbD_and,
    BitVec.getLsbD_shiftLeft, BitVec.getLsbD_ushiftRight, upper, lower]
  grind

theorem zxthResult_eq (x : Word) : zxthResult x = x &&& 0x0000FFFF#32 := by
  have masked : x.toNat &&& 0xFFFF = x.toNat % 2 ^ 16 := Nat.and_two_pow_sub_one_eq_mod x.toNat 16
  have mask : (0x0000FFFF#32 : Word).toNat = 0xFFFF := rfl
  apply BitVec.eq_of_toNat_eq
  rw [zxthResult, zext16, reg32_natCast, BitVec.toNat_ofNat, BitVec.toNat_setWidth, BitVec.toNat_and, mask, masked]
  omega

theorem leadingZeros_zero (n : Nat) : leadingZeros 0#32 n = n := by
  induction n with
  | zero => rfl
  | succ k ih => simp [leadingZeros, ih]

/-- A word that is not zero and fits in `n` bits consists of its leading zeros, its highest set bit and the bits
below. -/
theorem leadingZeros_add_log2 {x : Word} (nonzero : x ≠ 0#32) {n : Nat} (fits : x.toNat < 2 ^ n) :
    leadingZeros x n + x.toNat.log2 + 1 = n := by
  have positive : x.toNat ≠ 0 := fun zero => nonzero (BitVec.eq_of_toNat_eq zero)
  induction n with
  | zero => omega
  | succ k ih =>
    unfold leadingZeros
    split
    · next set =>
      have top : x.toNat.log2 = k := (Nat.log2_eq_iff positive).2 ⟨Nat.ge_two_pow_of_testBit set, fits⟩
      omega
    · next clear =>
      have below : x.toNat < 2 ^ k := by
        refine Nat.lt_pow_two_of_testBit _ fun i hi => ?_
        obtain rfl | past := Nat.eq_or_lt_of_le hi
        · exact Bool.eq_false_iff.2 clear
        · exact Nat.testBit_lt_two_pow (fits.trans_le (Nat.pow_le_pow_right (by decide) past))
      have rest := ih below
      omega

theorem clzResult_eq (x : Word) :
    clzResult x = if x = 0#32 then 32#32 else BitVec.ofNat 32 (31 - Nat.log2 x.toNat) := by
  unfold clzResult
  split
  · next zero => rw [zero, leadingZeros_zero]
  · next nonzero =>
    have count := leadingZeros_add_log2 nonzero x.isLt
    congr 1
    omega

/-- Settles O4: `sxtb` and `sxth` are sign extensions by definition; `bswap`, `zxth` and `clz` by their equations. -/
theorem monadicResults : Obligations.MonadicResults :=
  ⟨monadicOp_of_result (result := sxtbResult) (fun _ => rfl) fun _ _ _ => ⟨rfl, rfl⟩,
    monadicOp_of_result (result := sxthResult) (fun _ => rfl) fun _ _ _ => ⟨rfl, rfl⟩,
    monadicOp_of_result bswapResult_eq fun _ _ _ => ⟨rfl, rfl⟩,
    monadicOp_of_result zxthResult_eq fun _ _ _ => ⟨rfl, rfl⟩,
    monadicOp_of_result clzResult_eq fun _ _ _ => ⟨rfl, rfl⟩⟩

/-! ## The frame of the operations on registers only (40_integer.md R374) -/

/-- A write of destinations changes the register files and slr_valid only. -/
theorem WritesDests.rest {s t : State} {g : Option GReg} {b : Option BReg} (h : WritesDests s g b t) :
    { t with gpr := s.gpr, br := s.br, slrValid := s.slrValid } = s := by
  cases h <;> rfl

/-- Settles O13: each of these operations writes its destinations, and that is all it does. -/
theorem registerOperationsChangeOnlyTheirDestinations :
    Obligations.RegisterOperationsChangeOnlyTheirDestinations := by
  intro i s only
  obtain ⟨t, result, writes⟩ := exec_registerOnly only s
  have memory : t.mem = s.mem := (congrArg State.mem writes.rest :)
  exact ⟨t, result, writes.frame.general, writes.frame.branch, fun a => by rw [memory], writes.rest⟩

end Sys2Proof.Machine
end

section
/-! PROOF. The compare and logical operations: words of the four Cmp3 formats with either stop bit, and the truth values
as comparisons of words (41_compare_logical.md R380 to R395). -/

namespace Sys2Proof.Machine

open Sys2Proof.Rules

/-! ## The rows of the compare formats (30_encoding.md R296, R297) -/

/-- The bits above the opcode, with either stop bit, of the register and of the immediate forms. -/
theorem agree_cmpHead (p : BitVec 1) :
    (∀ j < 5, (1#6).getLsbD j = (p ++ 0#1 ++ 0#2 ++ 0#1 ++ 1#1).getLsbD j) ∧
    (∀ j < 5, (3#6).getLsbD j = (p ++ 0#1 ++ 0#2 ++ 1#1 ++ 1#1).getLsbD j) := by
  obtain rfl | rfl := BitVec.eq_zero_or_eq_one p <;> decide

theorem decodeSyllable_cmpRRWord (p : BitVec 1) (op : BitVec 5) (d b a : GReg) :
    decodeSyllable (cmpRRWord p op d b a) = decodeSyllable (encCmpRR op d b a) := by
  have agree : AgreeBelow 31 (encCmpRR op d b a) (cmpRRWord p op d b a) :=
    agree_append <| agree_append <| agree_append <| agree_append <| agree_append (agree_cmpHead p).1
  exact decodeSyllable_of_format00 agree (by simp)

theorem decodeSyllable_cmpBRWord (p : BitVec 1) (op : BitVec 5) (t : BReg) (b a : GReg) :
    decodeSyllable (cmpBRWord p op t b a) = decodeSyllable (encCmpBR op t b a) := by
  have agree : AgreeBelow 31 (encCmpBR op t b a) (cmpBRWord p op t b a) :=
    agree_append <| agree_append <| agree_append <| agree_append <| agree_append (agree_cmpHead p).1
  exact decodeSyllable_of_format00 agree (by simp)

theorem decodeSyllable_cmpRIWord (p : BitVec 1) (op : BitVec 5) (i : Imm9) (d a : GReg) :
    decodeSyllable (cmpRIWord p op i d a) = decodeSyllable (encCmpRI op i d a) := by
  have agree : AgreeBelow 31 (encCmpRI op i d a) (cmpRIWord p op i d a) :=
    agree_append <| agree_append <| agree_append <| agree_append (agree_cmpHead p).2
  exact decodeSyllable_of_format00 agree (by simp)

theorem decodeSyllable_cmpBIWord (p : BitVec 1) (op : BitVec 5) (i : Imm9) (t : BReg) (a : GReg) :
    decodeSyllable (cmpBIWord p op i t a) = decodeSyllable (encCmpBI op i t a) := by
  have agree : AgreeBelow 31 (encCmpBI op i t a) (cmpBIWord p op i t a) :=
    agree_append <| agree_append <| agree_append <| agree_append <| agree_append (agree_cmpHead p).2
  exact decodeSyllable_of_format00 agree (by simp)

/-- A row of the compare group, from the value of the model's truth function, the encodings of its four forms and what
`exec` makes of them. -/
theorem compareOp_of_holds {op : BitVec 4} {rr : GReg → GReg → GReg → Instr} {br : BReg → GReg → GReg → Instr}
    {ri : GReg → GReg → Imm9 → Instr} {bi : BReg → GReg → Imm9 → Instr} {holds f : Word → Word → Bool}
    (value : ∀ x y, holds x y = f x y)
    (general : ∀ d a b i s,
      encode (rr d a b) = encCmpRR (0#1 ++ op) d b a ∧ encode (ri d a i) = encCmpRI (0#1 ++ op) i d a ∧
      exec (rr d a b) s = .next (s.writeR d (truthWord (holds (s.r a) (s.r b)))) ∧
      exec (ri d a i) s = .next (s.writeR d (truthWord (holds (s.r a) (s.imm i)))))
    (branch : ∀ t a b i s,
      encode (br t a b) = encCmpBR (1#1 ++ op) t b a ∧ encode (bi t a i) = encCmpBI (1#1 ++ op) i t a ∧
      exec (br t a b) s = .next (s.writeB t (holds (s.r a) (s.r b))) ∧
      exec (bi t a i) s = .next (s.writeB t (holds (s.r a) (s.imm i)))) :
    CompareOp op rr br ri bi f := by
  refine ⟨fun p d a b s => ?_, fun p t a b s => ?_, fun p d a i s => ?_, fun p t a i s => ?_⟩
  · obtain ⟨encodes, -, runs, -⟩ := general d a b 0#9 s
    exact ⟨by rw [decodeSyllable_cmpRRWord, ← encodes, decodeSyllable_encode], by rw [runs, value, truthWord]⟩
  · obtain ⟨encodes, -, runs, -⟩ := branch t a b 0#9 s
    exact ⟨by rw [decodeSyllable_cmpBRWord, ← encodes, decodeSyllable_encode], by rw [runs, value]⟩
  · obtain ⟨-, encodes, -, runs⟩ := general d a 0#6 i s
    exact ⟨by rw [decodeSyllable_cmpRIWord, ← encodes, decodeSyllable_encode], by rw [runs, value, truthWord]⟩
  · obtain ⟨-, encodes, -, runs⟩ := branch t a 0#6 i s
    exact ⟨by rw [decodeSyllable_cmpBIWord, ← encodes, decodeSyllable_encode], by rw [runs, value]⟩

/-! ## The compares (41_compare_logical.md R380 to R389) -/

theorem sext32_inj {x y : Word} : sext32 x = sext32 y ↔ x = y := BitVec.toInt_inj

theorem sext32_le_iff {x y : Word} : sext32 x ≤ sext32 y ↔ x.sle y = true := BitVec.sle_iff_toInt_le.symm

theorem zext32_le_iff {x y : Word} : zext32 x ≤ zext32 y ↔ x.ule y = true := by simp [BitVec.ule, zext32]

theorem cmpeqHolds_eq (x y : Word) : cmpeqHolds x y = (x == y) := by
  simp only [cmpeqHolds, sext32_inj, beq_eq_decide]

theorem cmpneHolds_eq (x y : Word) : cmpneHolds x y = (x != y) := by
  simp only [cmpneHolds, ne_eq, sext32_inj, decide_not, bne, beq_eq_decide]

theorem cmpgeHolds_eq (x y : Word) : cmpgeHolds x y = y.sle x := by
  simp only [cmpgeHolds, ge_iff_le, sext32_le_iff, Bool.decide_eq_true]

theorem cmpgeuHolds_eq (x y : Word) : cmpgeuHolds x y = y.ule x := by
  simp only [cmpgeuHolds, ge_iff_le, zext32_le_iff, Bool.decide_eq_true]

theorem cmpgtHolds_eq (x y : Word) : cmpgtHolds x y = y.slt x := by
  simp only [cmpgtHolds, gt_iff_lt, sext32_lt_iff, Bool.decide_eq_true]

theorem cmpgtuHolds_eq (x y : Word) : cmpgtuHolds x y = y.ult x := by
  simp only [cmpgtuHolds, gt_iff_lt, zext32_lt_iff, Bool.decide_eq_true]

theorem cmpleHolds_eq (x y : Word) : cmpleHolds x y = x.sle y := by
  simp only [cmpleHolds, sext32_le_iff, Bool.decide_eq_true]

theorem cmpleuHolds_eq (x y : Word) : cmpleuHolds x y = x.ule y := by
  simp only [cmpleuHolds, zext32_le_iff, Bool.decide_eq_true]

theorem cmpltHolds_eq (x y : Word) : cmpltHolds x y = x.slt y := by
  simp only [cmpltHolds, sext32_lt_iff, Bool.decide_eq_true]

theorem cmpltuHolds_eq (x y : Word) : cmpltuHolds x y = x.ult y := by
  simp only [cmpltuHolds, zext32_lt_iff, Bool.decide_eq_true]

/-- Settles O5: the order of integers, signed or unsigned, is that of their words. -/
theorem compareResults : Obligations.CompareResults :=
  ⟨compareOp_of_holds cmpeqHolds_eq (fun _ _ _ _ _ => ⟨rfl, rfl, rfl, rfl⟩) fun _ _ _ _ _ => ⟨rfl, rfl, rfl, rfl⟩,
    compareOp_of_holds cmpneHolds_eq (fun _ _ _ _ _ => ⟨rfl, rfl, rfl, rfl⟩) fun _ _ _ _ _ => ⟨rfl, rfl, rfl, rfl⟩,
    compareOp_of_holds cmpgeHolds_eq (fun _ _ _ _ _ => ⟨rfl, rfl, rfl, rfl⟩) fun _ _ _ _ _ => ⟨rfl, rfl, rfl, rfl⟩,
    compareOp_of_holds cmpgeuHolds_eq (fun _ _ _ _ _ => ⟨rfl, rfl, rfl, rfl⟩) fun _ _ _ _ _ => ⟨rfl, rfl, rfl, rfl⟩,
    compareOp_of_holds cmpgtHolds_eq (fun _ _ _ _ _ => ⟨rfl, rfl, rfl, rfl⟩) fun _ _ _ _ _ => ⟨rfl, rfl, rfl, rfl⟩,
    compareOp_of_holds cmpgtuHolds_eq (fun _ _ _ _ _ => ⟨rfl, rfl, rfl, rfl⟩) fun _ _ _ _ _ => ⟨rfl, rfl, rfl, rfl⟩,
    compareOp_of_holds cmpleHolds_eq (fun _ _ _ _ _ => ⟨rfl, rfl, rfl, rfl⟩) fun _ _ _ _ _ => ⟨rfl, rfl, rfl, rfl⟩,
    compareOp_of_holds cmpleuHolds_eq (fun _ _ _ _ _ => ⟨rfl, rfl, rfl, rfl⟩) fun _ _ _ _ _ => ⟨rfl, rfl, rfl, rfl⟩,
    compareOp_of_holds cmpltHolds_eq (fun _ _ _ _ _ => ⟨rfl, rfl, rfl, rfl⟩) fun _ _ _ _ _ => ⟨rfl, rfl, rfl, rfl⟩,
    compareOp_of_holds cmpltuHolds_eq (fun _ _ _ _ _ => ⟨rfl, rfl, rfl, rfl⟩) fun _ _ _ _ _ => ⟨rfl, rfl, rfl, rfl⟩⟩

/-! ## The logical operations (41_compare_logical.md R390 to R393) -/

/-- A source is true when it is not the zero word. -/
theorem decide_sext32_ne_zero (x : Word) : decide (sext32 x ≠ 0) = (x != 0#32) := by
  have zero : sext32 0#32 = 0 := rfl
  rw [← zero]
  exact cmpneHolds_eq x 0#32

theorem andlHolds_eq (x y : Word) : andlHolds x y = (x != 0#32 && y != 0#32) := by
  rw [andlHolds, Bool.decide_and, decide_sext32_ne_zero, decide_sext32_ne_zero]

theorem nandlHolds_eq (x y : Word) : nandlHolds x y = !(x != 0#32 && y != 0#32) :=
  decide_not.trans (congrArg _ (andlHolds_eq x y))

theorem orlHolds_eq (x y : Word) : orlHolds x y = (x != 0#32 || y != 0#32) := by
  rw [orlHolds, Bool.decide_or, decide_sext32_ne_zero, decide_sext32_ne_zero]

theorem norlHolds_eq (x y : Word) : norlHolds x y = !(x != 0#32 || y != 0#32) :=
  decide_not.trans (congrArg _ (orlHolds_eq x y))

/-- Settles O6: an integer is 0 when its word is, and `nandl` and `norl` are the negations of `andl` and `orl`. -/
theorem logicalResults : Obligations.LogicalResults :=
  ⟨compareOp_of_holds andlHolds_eq (fun _ _ _ _ _ => ⟨rfl, rfl, rfl, rfl⟩) fun _ _ _ _ _ => ⟨rfl, rfl, rfl, rfl⟩,
    compareOp_of_holds nandlHolds_eq (fun _ _ _ _ _ => ⟨rfl, rfl, rfl, rfl⟩) fun _ _ _ _ _ => ⟨rfl, rfl, rfl, rfl⟩,
    compareOp_of_holds orlHolds_eq (fun _ _ _ _ _ => ⟨rfl, rfl, rfl, rfl⟩) fun _ _ _ _ _ => ⟨rfl, rfl, rfl, rfl⟩,
    compareOp_of_holds norlHolds_eq (fun _ _ _ _ _ => ⟨rfl, rfl, rfl, rfl⟩) fun _ _ _ _ _ => ⟨rfl, rfl, rfl, rfl⟩⟩

end Sys2Proof.Machine
end

section
/-! PROOF. Select, add with carry and divide step: words of the formats SelectR, SelectI and cgen with either stop bit, and
the sum, its carry and the divide step as operations on words (42_select_carry_divide.md R400 to R403). -/

namespace Sys2Proof.Machine

open Sys2Proof.Rules

/-! ## Words of the formats (30_encoding.md R296, R298) -/

/-- A word whose bits [30:0] are those of an encoding with a clear stop bit decodes to the instruction. -/
theorem decodeSyllable_of_agree_encode {i : Instr} {w : Word} (top : bitsOf (encode i) 30 2 = 0#2)
    (agree : AgreeBelow 31 (encode i) w) : decodeSyllable w = .ok i := by
  have clear : bitsOf (encode i) 31 1 = 0#1 := by
    have bit : (bitsOf (encode i) 30 2).getLsbD 1 = false := by rw [top]; rfl
    ext j hj
    obtain rfl : j = 0 := by omega
    simpa [bitsOf] using bit
  exact decodeSyllable_of_agree agree (fun set => absurd (clear.symm.trans set) (by decide)) (decodeSyllable_encode i)

theorem agree_selectRWord (p : BitVec 1) (op : BitVec 3) (c : BReg) (d b a : GReg) :
    AgreeBelow 31 (selectRWord 0#1 op c d b a) (selectRWord p op c d b a) := by
  unfold AgreeBelow selectRWord
  iterate 9 apply agree_append
  exact nofun

theorem agree_selectIWord (p : BitVec 1) (op : BitVec 3) (c : BReg) (i : Imm9) (d a : GReg) :
    AgreeBelow 31 (selectIWord 0#1 op c i d a) (selectIWord p op c i d a) := by
  unfold AgreeBelow selectIWord
  iterate 8 apply agree_append
  exact nofun

theorem agree_cgenWord (p : BitVec 1) (op : BitVec 4) (c t : BReg) (d b a : GReg) :
    AgreeBelow 31 (cgenWord 0#1 op c t d b a) (cgenWord p op c t d b a) := by
  unfold AgreeBelow cgenWord
  iterate 8 apply agree_append
  exact nofun

/-! ## Select (42_select_carry_divide.md R400, R401) -/

/-- The model of `slctf` asks whether the branch register is 1, the rule whether it is 0. -/
theorem slctf_choice (c : Bool) (x y : Word) : (if c = true then y else x) = if c = false then x else y := by
  cases c <;> rfl

theorem exec_slctfR (d : GReg) (c : BReg) (a b : GReg) (s : State) :
    exec (.slctfR d c a b) s = .next (s.writeR d (if s.b c = false then s.r a else s.r b)) := by
  rw [← slctf_choice]
  rfl

theorem exec_slctfI (d : GReg) (c : BReg) (a : GReg) (i : Imm9) (s : State) :
    exec (.slctfI d c a i) s = .next (s.writeR d (if s.b c = false then s.r a else s.imm i)) := by
  rw [← slctf_choice]
  rfl

/-! ## Add with carry (42_select_carry_divide.md R402) -/

/-- A branch register as a source is the word that a truth value writes. -/
theorem ofNat_zext1 (c : Bool) : BitVec.ofNat 32 (zext1 c) = if c then 1#32 else 0#32 := by cases c <;> rfl

theorem ofNat_carrySum (x y : Word) (c : Bool) :
    BitVec.ofNat 32 (carrySum x y c) = x + y + (if c then 1#32 else 0#32) := by
  rw [carrySum, BitVec.ofNat_add, BitVec.ofNat_add, ofNat_zext1, BitVec.ofNat_toNat, BitVec.ofNat_toNat,
    BitVec.setWidth_eq, BitVec.setWidth_eq]

/-- Both sources and the carry sum to less than 2^33, so bit 32 says whether the sum reaches 2^32. -/
theorem carryOut_eq (x y : Word) (c : Bool) :
    carryOut x y c = decide (2 ^ 32 ≤ x.toNat + y.toNat + (if c then 1 else 0)) := by
  have carry : zext1 c ≤ 1 := by cases c <;> decide
  have bound : carrySum x y c < 2 ^ 33 := by
    have := x.isLt
    have := y.isLt
    unfold carrySum
    omega
  calc carryOut x y c
    _ = decide (carrySum x y c / 2 ^ 32 % 2 = 1) := Nat.testBit_eq_decide_div_mod_eq
    _ = decide (2 ^ 32 ≤ carrySum x y c) := decide_eq_decide.2 (by omega)

theorem exec_addcg (d : GReg) (t c : BReg) (a b : GReg) (s : State) :
    exec (.addcg d t c a b) s = .next
      ((s.writeR d (s.r a + s.r b + (if s.b c then 1#32 else 0#32))).writeB t
        (decide (2 ^ 32 ≤ (s.r a).toNat + (s.r b).toNat + (if s.b c then 1 else 0)))) := by
  rw [← ofNat_carrySum, ← carryOut_eq]
  rfl

/-! ## Divide step (42_select_carry_divide.md R403) -/

@[simp] theorem reg32_zext32 (x : Word) : reg32 (zext32 x) = x := by
  rw [zext32, reg32_natCast, BitVec.ofNat_toNat, BitVec.setWidth_eq]

theorem divideBit_eq (x : Word) : divideBit x = x.msb := BitVec.msb_eq_toInt.symm

theorem sext32_neg_iff {x : Word} : sext32 x < 0 ↔ x.msb = true := by
  rw [← divideBit_eq, divideBit, decide_eq_true_iff]

/-- Twice the first source drops its sign bit and leaves bit 0 to the carry. -/
theorem reg32_divideTemp (x : Word) (c : Bool) :
    reg32 (divideTemp x c) = x <<< 1 ||| (if c then 1#32 else 0#32) := by
  have double : reg32 (sext32 x * 2) = x <<< 1 := (reg32_sal (sext32 x) 1).trans (by rw [reg32_sext32])
  rw [divideTemp, reg32_zext32, double, ofNat_zext1]

theorem divideWord_eq (x y : Word) (c : Bool) :
    divideWord x y c = if x.msb then (x <<< 1 ||| (if c then 1#32 else 0#32)) + y
      else (x <<< 1 ||| (if c then 1#32 else 0#32)) - y := by
  simp only [divideWord, sext32_neg_iff, reg32_add, reg32_sub, reg32_divideTemp, reg32_sext32]

theorem exec_divs (d : GReg) (t c : BReg) (a b : GReg) (s : State) :
    exec (.divs d t c a b) s = .next
      ((s.writeR d
        (if (s.r a).msb then (s.r a <<< 1 ||| (if s.b c then 1#32 else 0#32)) + s.r b
         else (s.r a <<< 1 ||| (if s.b c then 1#32 else 0#32)) - s.r b)).writeB t (s.r a).msb) := by
  rw [← divideWord_eq, ← divideBit_eq]
  rfl

/-! ## The statement -/

/-- Settles O7: each word agrees below the stop bit with the encoding of its instruction, and the results on integers are
those on words. -/
theorem selectCarryAndDivideStepResults : Obligations.SelectCarryAndDivideStepResults := by
  refine ⟨fun p d c a b s => ⟨?_, rfl, ?_, exec_slctfR d c a b s⟩,
    fun p d c a i s => ⟨?_, rfl, ?_, exec_slctfI d c a i s⟩,
    fun p d t c a b s => ⟨?_, exec_addcg d t c a b s, ?_, exec_divs d t c a b s⟩⟩
  · exact decodeSyllable_of_agree_encode (Laws.Encoding.slctR d c a b) (agree_selectRWord p 0#3 c d b a)
  · exact decodeSyllable_of_agree_encode (Laws.Encoding.slctfR d c a b) (agree_selectRWord p 1#3 c d b a)
  · exact decodeSyllable_of_agree_encode (Laws.Encoding.slctI d c a i) (agree_selectIWord p 0#3 c i d a)
  · exact decodeSyllable_of_agree_encode (Laws.Encoding.slctfI d c a i) (agree_selectIWord p 1#3 c i d a)
  · exact decodeSyllable_of_agree_encode (Laws.Encoding.addcg d t c a b) (agree_cgenWord p 2#4 c t d b a)
  · exact decodeSyllable_of_agree_encode (Laws.Encoding.divs d t c a b) (agree_cgenWord p 4#4 c t d b a)

end Sys2Proof.Machine
end

section
/-! PROOF. The multiplies: words of the format Mul64 with either stop bit, and the products of integers as products of
words that are wide enough to hold them (43_multiply.md R411 to R430). -/

namespace Sys2Proof.Machine

open Sys2Proof.Rules

/-! ## The rows of the Mul64 format (30_encoding.md R296, R297) -/

/-- A row of the 32 by 32 multiplies, from the value of the model's result, the encodings of its two forms and what
`exec` makes of them. -/
theorem mul64Op_of_result {op : BitVec 5} {reg : GReg → GReg → GReg → Instr} {imm : GReg → GReg → Imm9 → Instr}
    {result f : Word → Word → Word} (value : ∀ x y, result x y = f x y)
    (row : ∀ d a b i s, encode (reg d a b) = encCmpRR op d b a ∧ encode (imm d a i) = encCmpRI op i d a ∧
      exec (reg d a b) s = .next (s.writeR d (result (s.r a) (s.r b))) ∧
      exec (imm d a i) s = .next (s.writeR d (result (s.r a) (s.imm i)))) :
    Mul64Op op reg imm f := by
  refine ⟨fun p d a b s => ?_, fun p d a i s => ?_⟩
  · obtain ⟨encodes, -, runs, -⟩ := row d a b 0#9 s
    exact ⟨by rw [decodeSyllable_cmpRRWord, ← encodes, decodeSyllable_encode], by rw [runs, value]⟩
  · obtain ⟨-, encodes, -, runs⟩ := row d a 0#6 i s
    exact ⟨by rw [decodeSyllable_cmpRIWord, ← encodes, decodeSyllable_encode], by rw [runs, value]⟩

/-! ## Bits of a quotient by a power of two (00_scope.md R12, R13) -/

/-- The low `m` bits of the floor of `n / 2^k` are the bits from `k` of any word of `n` that reaches so far. -/
theorem ofInt_sar {k m w : Nat} (fits : k + m ≤ w) (n : Int) :
    BitVec.ofInt m (sar n k) = (BitVec.ofInt w n).extractLsb' k m := by
  obtain ⟨above, rfl⟩ := Nat.exists_eq_add_of_le fits
  have split : n = n % 2 ^ (k + m + above) + 2 ^ k * (2 ^ m * (2 ^ above * (n / 2 ^ (k + m + above)))) := by
    rw [← mul_assoc, ← mul_assoc, ← pow_add, ← pow_add, Int.emod_add_mul_ediv]
  have quotient : sar n k % 2 ^ m = n % 2 ^ (k + m + above) / 2 ^ k % 2 ^ m := by
    conv_lhs => rw [sar, split, Int.add_mul_ediv_left _ _ (by positivity), Int.add_mul_emod_self_left]
  have residue : ((n % 2 ^ (k + m + above)).toNat : Int) = n % 2 ^ (k + m + above) :=
    Int.toNat_of_nonneg (Int.emod_nonneg _ (by positivity))
  apply BitVec.eq_of_toNat_eq
  rw [BitVec.extractLsb'_toNat, BitVec.toNat_ofInt, BitVec.toNat_ofInt, Nat.shiftRight_eq_div_pow]
  push_cast
  rw [quotient, ← residue]
  norm_cast

theorem reg32_sar (w : Nat) {k : Nat} (fits : k + 32 ≤ w) (n : Int) :
    reg32 (sar n k) = (BitVec.ofInt w n).extractLsb' k 32 := ofInt_sar fits n

/-- The floor of a signed word's quotient is the value of its upper part. -/
theorem sar_toInt {k m : Nat} (v : BitVec (k + m)) (positive : 0 < m) :
    sar v.toInt k = (v.extractLsb' k m).toInt := by
  obtain ⟨l, rfl⟩ := Nat.exists_eq_succ_of_ne_zero positive.ne'
  have power : (2 : Int) ^ (k + l) = 2 ^ l * 2 ^ k := by rw [pow_add, mul_comm]
  have lower : -2 ^ l ≤ sar v.toInt k :=
    (Int.le_ediv_iff_mul_le (by positivity)).2 (by rw [neg_mul, ← power]; exact v.le_toInt)
  have upper : sar v.toInt k < 2 ^ l :=
    (Int.ediv_lt_iff_lt_mul (by positivity)).2 (by rw [← power]; exact v.toInt_lt)
  rw [← BitVec.toInt_ofInt_eq_self positive lower upper, ofInt_sar (Nat.le_refl _), BitVec.ofInt_toInt]

theorem ofInt_sext32 (w : Nat) (x : Word) : BitVec.ofInt w (sext32 x) = x.signExtend w := rfl

/-- The word of an unsigned value extends with zeros, or drops bits. -/
theorem ofInt_toNat {v : Nat} (w : Nat) (x : BitVec v) : BitVec.ofInt w (x.toNat : Int) = x.setWidth w := by
  rw [BitVec.ofInt_natCast, BitVec.ofNat_toNat]

theorem ofInt_zext32 (w : Nat) (x : Word) : BitVec.ofInt w (zext32 x) = x.setWidth w := ofInt_toNat w x

theorem reg32_mul (m n : Int) : reg32 (m * n) = reg32 m * reg32 n := BitVec.ofInt_mul m n

/-! ## The halves of a source (43_multiply.md R430) -/

theorem sar_sext32_eq_highHalf (y : Word) : sar (sext32 y) 16 = (y.extractLsb' 16 16).toInt :=
  sar_toInt (k := 16) (m := 16) y (by decide)

@[simp] theorem reg32_sext16 (y : Word) : reg32 (sext16 y) = lowS y := rfl

@[simp] theorem reg32_zext16 (y : Word) : reg32 (zext16 y) = lowU y := ofInt_toNat 32 (y.setWidth 16)

@[simp] theorem reg32_sar_sext32_16 (y : Word) : reg32 (sar (sext32 y) 16) = highS y := by
  rw [sar_sext32_eq_highHalf]
  rfl

@[simp] theorem reg32_zext16i_sar_sext32_16 (y : Word) : reg32 (zext16i (sar (sext32 y) 16)) = highU y := by
  rw [sar_sext32_eq_highHalf, zext16i, BitVec.ofInt_toInt]
  exact ofInt_toNat 32 _

/-! ## A word by a half-word (43_multiply.md R411, R413, R415 to R417, R420, R423) -/

theorem mullResult_eq (x y : Word) : mullResult x y = x * lowS y := by
  rw [mullResult, reg32_mul, reg32_sext32, reg32_sext16]

theorem mulluResult_eq (x y : Word) : mulluResult x y = x * lowU y := by
  rw [mulluResult, reg32_mul, reg32_zext32, reg32_zext16]

theorem mulhResult_eq (x y : Word) : mulhResult x y = x * highS y := by
  rw [mulhResult, reg32_mul, reg32_sext32, reg32_sar_sext32_16]

theorem mulhuResult_eq (x y : Word) : mulhuResult x y = x * highU y := by
  rw [mulhuResult, reg32_mul, reg32_zext32, reg32_zext16i_sar_sext32_16]

theorem mulhsResult_eq (x y : Word) : mulhsResult x y = (x * highU y) <<< 16 := by
  rw [mulhsResult, reg32_sal, reg32_mul, reg32_sext32, reg32_zext16i_sar_sext32_16]

theorem mulhhsResult_eq (x y : Word) :
    mulhhsResult x y = (x.signExtend 48 * (y.extractLsb' 16 16).signExtend 48).extractLsb' 16 32 := by
  rw [mulhhsResult, reg32_sar 48 (by decide), BitVec.ofInt_mul, ofInt_sext32, sar_sext32_eq_highHalf]
  rfl

/-- 48 bits hold the product of a signed word and an unsigned half-word. -/
theorem toInt_product48 (x y : Word) :
    (x.signExtend 48 * (y.setWidth 16).setWidth 48).toInt = sext32 x * zext16 y := by
  have value : x.signExtend 48 * (y.setWidth 16).setWidth 48 = BitVec.ofInt 48 (sext32 x * zext16 y) := by
    rw [BitVec.ofInt_mul, ofInt_sext32, zext16, ofInt_toNat]
  have word_lower : -2 ^ 31 ≤ sext32 x := x.le_toInt
  have word_upper : sext32 x < 2 ^ 31 := x.toInt_lt
  have half_lower : 0 ≤ zext16 y := Int.natCast_nonneg _
  have half_upper : zext16 y < 2 ^ 16 := Int.ofNat_lt.2 (y.setWidth 16).isLt
  have lower : -2 ^ 47 ≤ sext32 x * zext16 y := by nlinarith
  have upper : sext32 x * zext16 y < 2 ^ 47 := by nlinarith
  rw [value]
  exact BitVec.toInt_ofInt_eq_self (by decide) lower upper

theorem mullhusResult_eq (x y : Word) :
    mullhusResult x y = ((x.signExtend 48 * (y.setWidth 16).setWidth 48).extractLsb' 32 16).signExtend 32 := by
  rw [mullhusResult, ← toInt_product48, sar_toInt (k := 32) (m := 16) _ (by decide)]
  rfl

/-- Settles O8: modulo 2^32 the product of integers is that of their words, and the two multiplies that drop low bits
keep theirs of a product that 48 bits hold. -/
theorem wordByHalfMultiplyResults : Obligations.WordByHalfMultiplyResults :=
  ⟨int3Op_of_result mullResult_eq fun _ _ _ _ _ => ⟨rfl, rfl, rfl, rfl⟩,
    int3Op_of_result mulluResult_eq fun _ _ _ _ _ => ⟨rfl, rfl, rfl, rfl⟩,
    int3Op_of_result mulhResult_eq fun _ _ _ _ _ => ⟨rfl, rfl, rfl, rfl⟩,
    int3Op_of_result mulhuResult_eq fun _ _ _ _ _ => ⟨rfl, rfl, rfl, rfl⟩,
    int3Op_of_result mulhsResult_eq fun _ _ _ _ _ => ⟨rfl, rfl, rfl, rfl⟩,
    int3Op_of_result mulhhsResult_eq fun _ _ _ _ _ => ⟨rfl, rfl, rfl, rfl⟩,
    int3Op_of_result mullhusResult_eq fun _ _ _ _ _ => ⟨rfl, rfl, rfl, rfl⟩⟩

/-! ## Two half-words (43_multiply.md R412, R414, R418, R419, R421, R422) -/

theorem mulllResult_eq (x y : Word) : mulllResult x y = lowS x * lowS y := by
  rw [mulllResult, reg32_mul, reg32_sext16, reg32_sext16]

theorem mullluResult_eq (x y : Word) : mullluResult x y = lowU x * lowU y := by
  rw [mullluResult, reg32_mul, reg32_zext16, reg32_zext16]

theorem mullhResult_eq (x y : Word) : mullhResult x y = lowS x * highS y := by
  rw [mullhResult, reg32_mul, reg32_sext16, reg32_sar_sext32_16]

theorem mullhuResult_eq (x y : Word) : mullhuResult x y = lowU x * highU y := by
  rw [mullhuResult, reg32_mul, reg32_zext16, reg32_zext16i_sar_sext32_16]

theorem mulhhResult_eq (x y : Word) : mulhhResult x y = highS x * highS y := by
  rw [mulhhResult, reg32_mul, reg32_sar_sext32_16, reg32_sar_sext32_16]

theorem mulhhuResult_eq (x y : Word) : mulhhuResult x y = highU x * highU y := by
  rw [mulhhuResult, reg32_mul, reg32_zext16i_sar_sext32_16, reg32_zext16i_sar_sext32_16]

/-- Settles O9: each half that the model takes as an integer is the half-word of the rule, and modulo 2^32 the product of
integers is that of their words. -/
theorem halfByHalfMultiplyResults : Obligations.HalfByHalfMultiplyResults :=
  ⟨int3Op_of_result mulllResult_eq fun _ _ _ _ _ => ⟨rfl, rfl, rfl, rfl⟩,
    int3Op_of_result mullluResult_eq fun _ _ _ _ _ => ⟨rfl, rfl, rfl, rfl⟩,
    int3Op_of_result mullhResult_eq fun _ _ _ _ _ => ⟨rfl, rfl, rfl, rfl⟩,
    int3Op_of_result mullhuResult_eq fun _ _ _ _ _ => ⟨rfl, rfl, rfl, rfl⟩,
    int3Op_of_result mulhhResult_eq fun _ _ _ _ _ => ⟨rfl, rfl, rfl, rfl⟩,
    int3Op_of_result mulhhuResult_eq fun _ _ _ _ _ => ⟨rfl, rfl, rfl, rfl⟩⟩

/-! ## Two words (43_multiply.md R424 to R427) -/

theorem mul32Result_eq (x y : Word) : mul32Result x y = x * y := by
  rw [mul32Result, reg32_mul, reg32_sext32, reg32_sext32]

theorem mul64hResult_eq (x y : Word) :
    mul64hResult x y = (x.signExtend 64 * y.signExtend 64).extractLsb' 32 32 := by
  rw [mul64hResult, reg32_sar 64 (by decide), BitVec.ofInt_mul, ofInt_sext32, ofInt_sext32]

theorem mul64huResult_eq (x y : Word) :
    mul64huResult x y = (x.setWidth 64 * y.setWidth 64).extractLsb' 32 32 := by
  rw [mul64huResult, reg32_sar 64 (by decide), BitVec.ofInt_mul, ofInt_zext32, ofInt_zext32]

/-- -1 as a Q31 fraction is the most negative word. -/
theorem sext32_eq_minusOne_iff {x : Word} : sext32 x = -(2 ^ 31) ↔ x = 0x80000000#32 :=
  sext32_inj (y := 0x80000000#32)

theorem mulfracResult_eq (x y : Word) :
    mulfracResult x y = if x = 0x80000000#32 ∧ y = 0x80000000#32 then 0x7FFFFFFF#32
      else (x.signExtend 64 * y.signExtend 64 + 0x40000000#64).extractLsb' 31 32 := by
  have half : BitVec.ofInt 64 (sal 1 30) = 0x40000000#64 := rfl
  simp only [mulfracResult, sext32_eq_minusOne_iff]
  rw [reg32_sar 64 (by decide), BitVec.ofInt_add, BitVec.ofInt_mul, ofInt_sext32, ofInt_sext32, half]

/-- Settles O10: every bit of these results lies in the 64 bits of the product, rounded for `mulfrac`. -/
theorem wordByWordMultiplyResults : Obligations.WordByWordMultiplyResults :=
  ⟨mul64Op_of_result mul32Result_eq fun _ _ _ _ _ => ⟨rfl, rfl, rfl, rfl⟩,
    mul64Op_of_result mul64hResult_eq fun _ _ _ _ _ => ⟨rfl, rfl, rfl, rfl⟩,
    mul64Op_of_result mul64huResult_eq fun _ _ _ _ _ => ⟨rfl, rfl, rfl, rfl⟩,
    mul64Op_of_result mulfracResult_eq fun _ _ _ _ _ => ⟨rfl, rfl, rfl, rfl⟩⟩

end Sys2Proof.Machine
end

section
/-! PROOF. The format of loads, stores and cache operations with either stop bit (30_encoding.md R296, R299), and the words
the spec writes out. -/

namespace Sys2Proof.Machine

open Sys2Proof.Rules

theorem agree_memoryWord (p : BitVec 1) (op : BitVec 5) (i : Imm9) (x a : GReg) :
    AgreeBelow 31 (encMem op i x a) (memoryWord p op i x a) := by
  have clear : encMem op i x a = memoryWord 0#1 op i x a := rfl
  rw [clear]
  unfold AgreeBelow memoryWord
  iterate 7 apply agree_append
  exact nofun

theorem agree_sysWord (p : BitVec 1) (op : BitVec 7) (n : Imm21) :
    AgreeBelow 31 (encSys 0#1 op n) (sysWord p op n) := by
  have clear : encSys 0#1 op n = sysWord 0#1 op n := rfl
  rw [clear]
  unfold AgreeBelow sysWord
  iterate 4 apply agree_append
  exact nofun

/-- The stop bit is no part of an operation of format 10 (30_encoding.md R290). -/
theorem decodeSyllable_memoryWord {j : Instr} {op : BitVec 5} {i : Imm9} {x a : GReg}
    (encodes : encode j = encMem op i x a) (p : BitVec 1) : decodeSyllable (memoryWord p op i x a) = .ok j :=
  decodeSyllable_of_agree_encode (encodes ▸ Laws.encMem_top op i x a) (encodes ▸ agree_memoryWord p op i x a)

/-- The decoding of the encoder's word, with the stop bit clear but for `sbrk`. -/
theorem decodeSyllable_of_encode {w : Word} {i : Instr} (h : encode i = w) : decodeSyllable w = .ok i :=
  h ▸ decodeSyllable_encode i

/-- The same with the stop bit set. -/
theorem decodeSyllable_of_encode_stop {w : Word} {i : Instr} (h : encode i ||| 0x80000000#32 = w) :
    decodeSyllable w = .ok i := h ▸ (decodeOfEncodeIsTheInstruction i).2

/-- Settles O60: each word is the encoding of its instruction, that of `syscall` and of `sync` with the stop bit set; the row
of `sbrk` refuses a clear stop bit. -/
theorem wordsOfTheSpecDecode : Obligations.WordsOfTheSpecDecode :=
  ⟨decodeSyllable_of_encode rfl, decodeSyllable_of_encode rfl, decodeSyllable_of_encode_stop rfl,
    decodeSyllable_of_encode rfl, decodeSyllable_of_encode rfl, decodeSyllable_of_encode rfl,
    decodeSyllable_of_encode rfl, decodeSyllable_of_encode rfl, decodeSyllable_of_encode rfl,
    decodeSyllable_of_encode rfl, decodeSyllable_of_encode rfl, decodeSyllable_of_encode_stop rfl, rfl⟩

end Sys2Proof.Machine
end

section
/-! PROOF. What the ten loads write to their destinations, from memory, the debug ROM and the peripheral registers, and what
they leave alone (44_load_store_cache.md R435 to R444, 20_memory.md R150 to R153). -/

namespace Sys2Proof.Machine

open Sys2Proof.Rules

/-! ## Data reads -/

section
variable {w : Width} {f : Word → Word} {a : Word} {d : GReg} {s : State}

/-- A read of memory that answers. -/
theorem dataRead_of_readable (readable : ReadableMemory s (translate s a)) :
    SameButFetch (s.writeR d (f (memLoad s.cfg.bigEndian s.mem w (translate s a)))) (dataRead w f a d s) := by
  obtain ⟨window, answers⟩ := readable
  simp only [dataRead, busRead, window, answers]
  exact sameButFetch_writeR_touchLine ..

/-- A read outside external memory touches no line of the data cache. -/
theorem dataRead_of_peripheral {v : Word} (window : windowOf s.cfg (translate s a) ≠ .memory)
    (read : busRead s w (cachedAccess s a) (translate s a) = some v) : dataRead w f a d s = s.writeR d (f v) := by
  simp [dataRead, read, touchLine, window]

/-- The registers and the ROM of the peripheral block answer uncached word reads (61_platform_devices.md R583). -/
theorem exists_busRead_of_peripheral {pa : Word} (window : windowOf s.cfg pa ≠ .memory) :
    ∃ v, busRead s .word false pa = some v := by
  unfold busRead
  split
  · exact ⟨_, if_pos ⟨rfl, rfl⟩⟩
  · exact ⟨_, if_pos ⟨rfl, rfl⟩⟩
  · exact ⟨_, if_pos ⟨rfl, rfl⟩⟩
  · exact absurd ‹_› window

/-- The word of the debug ROM is the one the parameters give and the one instruction fetch reads. -/
theorem debugRomWord_romWord {pa : Word} {off : Nat} (window : windowOf s.cfg pa = .rom off) :
    DebugRomWord s pa off (romWord s.cfg (off / 4)) :=
  ⟨fun v given => by simp [romWord, List.getD, given], fun va => by simp [fetchPhys, window]⟩

/-- A read writes its destination, with the records of stored words and the pending bus error all that may change beside. -/
theorem dataRead_changes (w : Width) (f : Word → Word) (a : Word) (d : GReg) (s : State) :
    ∃ v xs e, dataRead w f a d s = { s.writeR d v with stale := xs, busErrorPending := e } := by
  obtain ⟨t, rfl, h⟩ := dataRead_cases w f a d s
  obtain ⟨xs, et⟩ := touchLine_changes StaleWord.readLine (cachedAccess s a) (translate s a) s
  rw [et] at h
  obtain ⟨v, -, e⟩ | ⟨-, e⟩ := h <;> exact ⟨_, _, _, e⟩

theorem disRead_changes (w : Width) (f : Word → Word) (a : Word) (d : GReg) (s : State) :
    ∃ v xs e, disRead w f a d s = { s.writeR d v with stale := xs, busErrorPending := e } := by
  obtain ⟨-, e⟩ | ⟨-, -, e⟩ | ⟨-, -, e⟩ := disRead_cases w f a d s
  · exact ⟨_, _, _, e⟩
  · rw [e]
    exact dataRead_changes w f a d s
  · obtain ⟨xs, et⟩ := touchLine_changes StaleWord.purgeLine (cachedAccess s a) (translate s a) s
    rw [et] at e
    exact ⟨_, _, _, e⟩

/-- A dismissible load that raises nothing and has nothing to read gives 0 (20_memory.md R153). -/
theorem disRead_of_nothing (nothing : a.toNat % w.bytes ≠ 0 ∨ noTranslation s a = true ∨ readViolation s a = true ∨
    scuHit s (translate s a) = false) : SameButFetch (s.writeR d 0#32) (disRead w f a d s) := by
  obtain ⟨-, e⟩ | ⟨read, hit, -⟩ | ⟨-, -, e⟩ := disRead_cases w f a d s
  · rw [e]
    rfl
  · simp only [dismissed, Bool.or_eq_false_iff] at read
    obtain ⟨⟨aligned, mapped⟩, allowed⟩ := read
    obtain h | h | h | h := nothing
    · rw [misaligned_iff.2 h] at aligned
      cases aligned
    · cases mapped.symm.trans h
    · cases allowed.symm.trans h
    · cases hit.symm.trans h
  · rw [e]
    exact sameButFetch_writeR_touchLine ..

/-- A dismissible load raises for what it is asked to report alone (20_memory.md R151). -/
theorem disReadCheck_of_quiet (single : multiMapping s a = false)
    (aligned : a.toNat % w.bytes = 0 ∨ s.specMalignTrap = false)
    (mapped : noTranslation s a = false ∨ s.tlbDynamic = false) : disReadCheck w a s = none := by
  have noAlignTrap : (misaligned w a && s.specMalignTrap) = false := by
    obtain h | h := aligned
    · rw [misaligned_eq_false h, Bool.false_and]
    · rw [h, Bool.and_false]
  have noTlbTrap : (s.tlbDynamic && noTranslation s a) = false := by
    obtain h | h := mapped <;> simp [h]
  simp [disReadCheck, noAlignTrap, single, noTlbTrap]

end

/-! ## Normal loads -/

/-- A row of the normal loads, from its encoding. -/
theorem loadRow_of_isNormalLoad {op : BitVec 5} {mk : GReg → GReg → Imm9 → Instr} {n : Nat} {signed : Bool}
    (encodes : ∀ d a i, encode (mk d a i) = encMem op i d a)
    (load : ∀ d a i, IsNormalLoad (mk d a i) n signed d a i) : LoadRow op mk n signed :=
  fun p d a i _ => ⟨decodeSyllable_memoryWord (encodes d a i) p, exec_load_of_readable (load d a i)⟩

theorem exec_ldw_of_passes {d a : GReg} {i : Imm9} {s : State} (passes : ReadPasses s 4 (s.imm i + s.r a)) :
    exec (.ldw d a i) s = .next (dataRead .word id (s.imm i + s.r a) d s) := loadOp_of_passes (w := .word) passes

/-- An uncached word load of the debug ROM (61_platform_devices.md R583, R648). -/
theorem exec_ldw_of_rom {d a : GReg} {i : Imm9} {s : State} {off : Nat} (passes : ReadPasses s 4 (s.imm i + s.r a))
    (uncached : cachedAccess s (s.imm i + s.r a) = false)
    (window : windowOf s.cfg (translate s (s.imm i + s.r a)) = .rom off) :
    exec (.ldw d a i) s = .next (s.writeR d (romWord s.cfg (off / 4))) := by
  have read : busRead s .word (cachedAccess s (s.imm i + s.r a)) (translate s (s.imm i + s.r a)) =
      some (romWord s.cfg (off / 4)) := by simp [busRead, window, uncached]
  rw [exec_ldw_of_passes passes, dataRead_of_peripheral (by simp [window]) read]
  rfl

/-- Settles O14: a load that passes its checks reads memory, or the ROM, and writes what it read. -/
theorem normalLoadsReturnMemory : Obligations.NormalLoadsReturnMemory := by
  refine ⟨loadRow_of_isNormalLoad (fun _ _ _ => rfl) fun _ _ _ => ?_,
    loadRow_of_isNormalLoad (fun _ _ _ => rfl) fun _ _ _ => ?_,
    loadRow_of_isNormalLoad (fun _ _ _ => rfl) fun _ _ _ => ?_,
    loadRow_of_isNormalLoad (fun _ _ _ => rfl) fun _ _ _ => ?_,
    loadRow_of_isNormalLoad (fun _ _ _ => rfl) fun _ _ _ => ?_, ?rom⟩
  case rom =>
    rintro d a i s _ off rfl passes uncached window
    exact ⟨_, debugRomWord_romWord window, exec_ldw_of_rom passes uncached window⟩
  all_goals simp [IsNormalLoad]

/-! ## Dismissible loads -/

theorem disLoadOp_of_cregSpace {w : Width} {f : Word → Word} {d a : GReg} {k : Imm9} {s : State}
    (hb : ¬DataBreak s (s.imm k + s.r a)) (hc : InCRegSpace (s.imm k + s.r a)) :
    disLoadOp w f d a k s = .next (s.writeR d 0#32) := by
  simp [disLoadOp, ea_eq_add, isDBreakHit_eq_false hb, isCRegSpace_iff.2 hc]

theorem disLoadOp_of_accepted {w : Width} {f : Word → Word} {d a : GReg} {k : Imm9} {s : State}
    (hb : ¬DataBreak s (s.imm k + s.r a)) (hc : ¬InCRegSpace (s.imm k + s.r a))
    (accepted : disReadCheck w (s.imm k + s.r a) s = none) :
    disLoadOp w f d a k s = .next (disRead w f (s.imm k + s.r a) d s) := by
  simp [disLoadOp, ea_eq_add, isDBreakHit_eq_false hb, isCRegSpace_eq_false hc, accepted]

/-- A dismissible load that passes the checks of the normal load and hits the SCU reads as that does. -/
theorem disLoadOp_of_hit {w : Width} {f : Word → Word} {d a : GReg} {k : Imm9} {s : State}
    (passes : ReadPasses s w.bytes (s.imm k + s.r a)) (hit : scuHit s (translate s (s.imm k + s.r a)) = true) :
    disLoadOp w f d a k s = .next (dataRead w f (s.imm k + s.r a) d s) := by
  simp [disLoadOp_of_passes passes, disRead, dismissed_of_passes passes, hit]

/-- A row of the dismissible loads, from its encoding, the shared load it calls and how that extends what it reads. -/
theorem dismissibleRow_of_disLoadOp {op : BitVec 5} {mk : GReg → GReg → Imm9 → Instr} {w : Width} {f : Word → Word}
    {signed : Bool} (encodes : ∀ d a i, encode (mk d a i) = encMem op i d a)
    (run : ∀ d a i s, exec (mk d a i) s = disLoadOp w f d a i s)
    (value : ∀ big m pa, f (memLoad big m w pa) = loadedWord signed w.bytes (memNumber big m pa w.bytes)) :
    DismissibleRow op mk w.bytes signed := by
  rintro p d a i s _ rfl
  refine ⟨decodeSyllable_memoryWord (encodes d a i) p, fun hb hc => ?_, fun passes readable hit => ?_,
    fun hb hc single aligned mapped nothing => ?_⟩
  · exact (run d a i s).trans (disLoadOp_of_cregSpace hb hc)
  · refine ⟨_, (run d a i s).trans (disLoadOp_of_hit passes hit), ?_⟩
    rw [← value]
    exact dataRead_of_readable readable
  · exact ⟨_, (run d a i s).trans (disLoadOp_of_accepted hb hc (disReadCheck_of_quiet single aligned mapped)),
      disRead_of_nothing nothing⟩

/-- Settles O15: in each row the model's checks are those of the rule, and what passes them is read as by the normal load. -/
theorem dismissibleLoadsReturnMemoryOrZero : Obligations.DismissibleLoadsReturnMemoryOrZero := by
  refine ⟨dismissibleRow_of_disLoadOp (w := .word) (fun _ _ _ => rfl) (fun _ _ _ _ => rfl) fun big m pa => ?_,
    dismissibleRow_of_disLoadOp (w := .half) (fun _ _ _ => rfl) (fun _ _ _ _ => rfl) fun big m pa => ?_,
    dismissibleRow_of_disLoadOp (w := .half) (fun _ _ _ => rfl) (fun _ _ _ _ => rfl) fun big m pa => ?_,
    dismissibleRow_of_disLoadOp (w := .byte) (fun _ _ _ => rfl) (fun _ _ _ _ => rfl) fun big m pa => ?_,
    dismissibleRow_of_disLoadOp (w := .byte) (fun _ _ _ => rfl) (fun _ _ _ _ => rfl) fun big m pa => ?_, ?_⟩
  · exact memLoad_eq_loadedWord big m .word pa
  · rw [extendHalf_eq, memLoad_toNat]
    rfl
  · exact memLoad_eq_loadedWord big m .half pa
  · rw [extendByte_eq, memLoad_toNat]
    rfl
  · exact memLoad_eq_loadedWord big m .byte pa
  · rintro d a i s _ rfl passes uncached window hit
    have same : exec (.ldwD d a i) s = exec (.ldw d a i) s :=
      (disLoadOp_of_hit (w := .word) passes hit).trans (exec_ldw_of_passes passes).symm
    obtain ⟨v, read⟩ := exists_busRead_of_peripheral window
    rw [← uncached] at read
    refine ⟨same, v, ?_⟩
    rw [same, exec_ldw_of_passes passes, dataRead_of_peripheral window read]
    rfl

/-! ## The frame -/

/-- The ten loads are the five normal and the five dismissible ones. -/
theorem normal_or_dismissible_of_isLoad {i : Instr} {d a : GReg} {k : Imm9} (h : IsLoad i d a k) :
    (∃ n signed, IsNormalLoad i n signed d a k) ∨ ∃ n, IsDismissibleLoad i n d a k := by
  simp only [IsLoad, List.mem_cons, List.not_mem_nil, or_false] at h
  simp only [IsNormalLoad, IsDismissibleLoad, List.mem_cons, Prod.mk.injEq, List.not_mem_nil, or_false]
  obtain rfl | rfl | rfl | rfl | rfl | rfl | rfl | rfl | rfl | rfl := h <;> simp

/-- A load outside control register space that raised nothing has written its destination. -/
theorem exec_load_changes {i : Instr} {d a : GReg} {k : Imm9} {s t : State} (load : IsLoad i d a k)
    (space : ¬InCRegSpace (s.imm k + s.r a)) (ht : exec i s = .next t) (done : t.signal = .done) :
    ∃ v xs e, t = { s.writeR d v with stale := xs, busErrorPending := e } := by
  rw [← ea_eq_add] at space
  have outside := isCRegSpace_eq_false space
  obtain ⟨n, signed, normal⟩ | ⟨n, dismissible⟩ := normal_or_dismissible_of_isLoad load
  · obtain ⟨w, f, -, run, -⟩ := exec_of_isNormalLoad normal
    obtain ⟨-, rfl⟩ | ⟨-, inside, -⟩ | ⟨-, -, ⟨e, -, rfl⟩ | ⟨-, rfl⟩⟩ := loadOp_cases ((run s).symm.trans ht)
    · simp at done
    · cases outside.symm.trans inside
    · simp at done
    · exact dataRead_changes w f _ d s
  · obtain ⟨w, f, -, run⟩ := exec_of_isDismissibleLoad dismissible
    obtain ⟨-, rfl⟩ | ⟨-, inside, -⟩ | ⟨-, -, ⟨e, -, rfl⟩ | ⟨-, rfl⟩⟩ := disLoadOp_cases ((run s).symm.trans ht)
    · simp at done
    · cases outside.symm.trans inside
    · simp at done
    · exact disRead_changes w f _ d s

/-- Settles O18: what such a load leaves is the state with its destination written. -/
theorem loadsChangeOnlyTheirDestination : Obligations.LoadsChangeOnlyTheirDestination := by
  intro i d a k s t load space _ ht done
  obtain ⟨v, xs, e, rfl⟩ := exec_load_changes load space ht done
  exact ⟨fun r other => r_writeR_ne s d r v other, fun _ => rfl, rfl⟩

end Sys2Proof.Machine
end

section
/-! PROOF. What the three stores write, and what they leave alone (44_load_store_cache.md R445 to R447, 20_memory.md R154,
R155). -/

namespace Sys2Proof.Machine

open Sys2Proof.Rules

/-! ## Data writes -/

theorem valueByte_eq_ofNat (v : Word) (k : Nat) : valueByte v k = BitVec.ofNat 8 (v.toNat / 256 ^ k) :=
  BitVec.eq_of_toNat_eq (by rw [valueByte_toNat, BitVec.toNat_ofNat])

/-- A store to memory that takes writes leaves the bytes of its source there, the rest of memory as it was and, but for the
record of the store, the rest of the state. -/
theorem storeMem_touchLine_writes {s : State} {w : Width} {cached : Bool} {pa v : Word} {t : State}
    (wf : Memory.wf s.mem = true) (ht : t = storeMem (touchLine StaleWord.purgeLine cached pa s) w cached pa v) :
    { t with mem := s.mem, stale := s.stale } = s ∧ Memory.wf t.mem = true ∧
      (∀ k, k < w.bytes → memByte t.mem (pa + BitVec.ofNat 32 k).toNat =
        BitVec.ofNat 8 (v.toNat / 256 ^ (if s.cfg.bigEndian then w.bytes - 1 - k else k))) ∧
      (∀ x, (∀ k, k < w.bytes → x ≠ (pa + BitVec.ofNat 32 k).toNat) → memByte t.mem x = memByte s.mem x) := by
  obtain ⟨xs, e⟩ := touchLine_changes StaleWord.purgeLine cached pa s
  rw [e] at ht
  subst ht
  refine ⟨rfl, memStore_wf wf _ _ _ _, fun k hk => ?_, fun x hx => memByte_memStore_ne _ _ _ _ _ hx⟩
  rw [← valueByte_eq_ofNat]
  exact memByte_memStore wf _ _ _ _ hk

/-- A write of the bus leaves every byte of memory but those it covers. -/
theorem memByte_busWrite_ne (s : State) (w : Width) (cached : Bool) (pa v : Word) {x : Nat}
    (hx : ∀ j, j < w.bytes → x ≠ (pa + BitVec.ofNat 32 j).toNat) :
    memByte (busWrite s w cached pa v).mem x = memByte s.mem x := by
  have external : memByte (externalWrite (touchLine StaleWord.purgeLine cached pa s) w cached pa v).mem x =
      memByte s.mem x := by
    obtain ⟨-, e⟩ | ⟨-, e⟩ := externalWrite_cases (touchLine StaleWord.purgeLine cached pa s) w cached pa v <;> rw [e]
    · simp
    · simpa [storeMem] using memByte_memStore_ne s.cfg.bigEndian s.mem w pa v hx
  obtain ⟨off, -, -, e⟩ | ⟨off, -, -, e⟩ | ⟨-, -, -, e⟩ | ⟨-, -, e⟩ | ⟨-, t, rfl, ⟨-, e⟩ | ⟨-, e | e⟩⟩ :=
    busWrite_cases s w cached pa v
  · obtain ⟨_, _, changed⟩ := intcWrite_changes s off v
    rw [e, changed]
  · obtain ⟨_, changed⟩ := dsuWrite_changes s off v
    rw [e, changed]
  · rw [e]
  · rw [e]
  · rw [e]
    exact external
  · rw [e]
    simp
  · rw [e]
    exact external

/-- A write of ROM changes the records of stored words alone (log 4). -/
theorem busWrite_of_rom {s : State} {w : Width} {cached : Bool} {pa v : Word} (window : windowOf s.cfg pa = .memory)
    (answers : busWriteError s.cfg pa = false) (rom : romAt s.cfg pa = true) :
    busWrite s w cached pa v = touchLine StaleWord.purgeLine cached pa s := by
  simp [busWrite, window, answers, externalWrite, rom]

/-- A word write of the debug ROM is ignored (log 23). -/
theorem busWrite_of_debugRom {s : State} {cached : Bool} {pa v : Word} {off : Nat}
    (window : windowOf s.cfg pa = .rom off) : busWrite s .word cached pa v = s := by
  simp [busWrite, window]

/-! ## Stores -/

/-- A row of the stores, from its encoding. -/
theorem storeRow_of_isStore {op : BitVec 5} {mk : GReg → GReg → Imm9 → Instr} {n : Nat}
    (encodes : ∀ b a i, encode (mk b a i) = encMem op i b a) (store : ∀ b a i, IsStore (mk b a i) n b a i) :
    StoreRow op mk n := by
  rintro p b a i s _ _ rfl rfl
  refine ⟨decodeSyllable_memoryWord (encodes b a i) p, fun passes writable wf => ?_,
    fun passes window answers rom => ?_⟩
  · obtain ⟨w, rfl, run⟩ := exec_store_of_writable (store b a i) passes writable
    exact ⟨_, run, storeMem_touchLine_writes wf rfl⟩
  · obtain ⟨w, rfl, run⟩ := exec_of_isStore (store b a i)
    refine ⟨_, (run s).trans (storeOp_of_passes passes), ?_⟩
    rw [busWrite_of_rom window answers rom]
    obtain ⟨xs, e⟩ := touchLine_changes StaleWord.purgeLine (cachedAccess s (s.imm i + s.r a))
      (translate s (s.imm i + s.r a)) s
    rw [e]
    rfl

/-- Settles O16: a store that passes its checks writes memory, ROM apart. -/
theorem storesWriteTheirBytes : Obligations.StoresWriteTheirBytes := by
  refine ⟨storeRow_of_isStore (fun _ _ _ => rfl) fun _ _ _ => ?_, storeRow_of_isStore (fun _ _ _ => rfl) fun _ _ _ => ?_,
    storeRow_of_isStore (fun _ _ _ => rfl) fun _ _ _ => ?_, ?rom⟩
  case rom =>
    rintro b a i s _ off rfl passes window
    have run : exec (.stw b a i) s = .next (busWrite s .word (cachedAccess s (s.imm i + s.r a))
      (translate s (s.imm i + s.r a)) (s.r b)) := storeOp_of_passes (w := .word) passes
    rw [run, busWrite_of_debugRom window]
  all_goals simp [IsStore]

/-- A store outside control register space that raised nothing has written to the bus. -/
theorem exec_store_writes {i : Instr} {n : Nat} {b a : GReg} {k : Imm9} {s t : State} (store : IsStore i n b a k)
    (space : ¬InCRegSpace (s.imm k + s.r a)) (ht : exec i s = .next t) (done : t.signal = .done) :
    ∃ w : Width, w.bytes = n ∧
      t = busWrite s w (cachedAccess s (s.imm k + s.r a)) (translate s (s.imm k + s.r a)) (s.r b) := by
  obtain ⟨w, hw, run⟩ := exec_of_isStore store
  have outside := isCRegSpace_eq_false space
  rw [← ea_eq_add] at outside ⊢
  obtain ⟨-, rfl⟩ | ⟨-, inside, -⟩ | ⟨-, -, ⟨e, -, rfl⟩ | ⟨-, rfl⟩⟩ := storeOp_cases ((run s).symm.trans ht)
  · simp at done
  · cases outside.symm.trans inside
  · simp at done
  · exact ⟨w, hw, rfl⟩

/-- Settles O19: such a store is a write of the bus. -/
theorem storesChangeOnlyTheirBytes : Obligations.StoresChangeOnlyTheirBytes := by
  intro i n b a k s t store space _ ht done
  obtain ⟨w, rfl, rfl⟩ := exec_store_writes store space ht done
  refine ⟨fun x hx => memByte_busWrite_ne s w _ _ _ hx, ?_⟩
  obtain ⟨m, xs, e, x, y, z, changed, -⟩ :=
    busWrite_changes s w (cachedAccess s (s.imm k + s.r a)) (translate s (s.imm k + s.r a)) (s.r b)
  rw [changed]

end Sys2Proof.Machine
end

section
/-! PROOF. Prefetch, purges, `sync` and the invalidations of the instruction cache (44_load_store_cache.md R451 to R457,
20_memory.md R182 to R186). -/

namespace Sys2Proof.Machine

open Sys2Proof.Rules

/-- When the line fill of a prefetch may meet a bus error (log 29). -/
theorem prefetchMayFail_iff {a : Word} {s : State} : prefetchMayFail a s = true ↔
    ¬InCRegSpace a ∧ cachedAccess s a = true ∧ readViolation s a = false ∧ scuHit s (translate s a) = true ∧
      windowOf s.cfg (translate s a) = .memory ∧ busReadError s.cfg (translate s a) = true := by
  simp [prefetchMayFail, and_assoc, ← isCRegSpace_iff]

/-! ## `prgadd` -/

section
variable {a : GReg} {i : Imm9} {s : State}

theorem exec_prgadd_of_cregSpace (space : InCRegSpace (s.imm i + s.r a)) : exec (.prgadd a i) s = .next s := by
  simp [exec, execPrgadd, ea_eq_add, isCRegSpace_iff.2 space]

theorem exec_prgadd_of_refused (space : ¬InCRegSpace (s.imm i + s.r a)) {e : Raise}
    (refused : purgeCheck (s.imm i + s.r a) s = some e) : exec (.prgadd a i) s = raised e s := by
  simp [exec, execPrgadd, ea_eq_add, isCRegSpace_eq_false space, refused]

theorem exec_prgadd_of_accepted (space : ¬InCRegSpace (s.imm i + s.r a))
    (accepted : purgeCheck (s.imm i + s.r a) s = none) :
    exec (.prgadd a i) s = .next (purgeAddress (s.imm i + s.r a) s) := by
  simp [exec, execPrgadd, ea_eq_add, isCRegSpace_eq_false space, accepted]

theorem purgeCheck_of_quiet {ea : Word} (single : multiMapping s ea = false)
    (mapped : noTranslation s ea = false ∨ s.tlbDynamic = false) : purgeCheck ea s = none := by
  obtain h | h := mapped <;> simp [purgeCheck, single, h]

theorem purgeCheck_of_notTranslated {ea : Word}
    (h : multiMapping s ea = true ∨ (noTranslation s ea = true ∧ s.tlbDynamic = true)) :
    purgeCheck ea s = some (raiseSpec s ea) := by
  obtain h | ⟨unmapped, dynamic⟩ := h
  · simp [purgeCheck, h]
  · simp [purgeCheck, unmapped, dynamic]

/-- A purge of a line moves records of stored words on, at most. -/
theorem purgeAddress_changes (ea : Word) (s : State) : ∃ xs, purgeAddress ea s = { s with stale := xs } := by
  unfold purgeAddress
  split <;> exact ⟨_, rfl⟩

/-- `prgadd` completes where nothing is to be raised. -/
theorem exec_prgadd_of_quiet (h : InCRegSpace (s.imm i + s.r a) ∨ (multiMapping s (s.imm i + s.r a) = false ∧
    (noTranslation s (s.imm i + s.r a) = false ∨ s.tlbDynamic = false))) :
    ∃ t, exec (.prgadd a i) s = .next t ∧ { t with stale := s.stale } = s := by
  by_cases space : InCRegSpace (s.imm i + s.r a)
  · exact ⟨s, exec_prgadd_of_cregSpace space, rfl⟩
  · obtain ⟨single, mapped⟩ := h.resolve_left space
    obtain ⟨xs, e⟩ := purgeAddress_changes (s.imm i + s.r a) s
    refine ⟨_, exec_prgadd_of_accepted space (purgeCheck_of_quiet single mapped), ?_⟩
    rw [e]

/-- `prgadd` raises DTLB as a dismissible access does (20_memory.md R182, 21_translation.md R258). -/
theorem exec_prgadd_of_notTranslated (space : ¬InCRegSpace (s.imm i + s.r a))
    (h : multiMapping s (s.imm i + s.r a) = true ∨
      (noTranslation s (s.imm i + s.r a) = true ∧ s.tlbDynamic = true)) :
    ∃ t, exec (.prgadd a i) s = .next t ∧ Raises .dtlb (s.imm i + s.r a) s t ∧ t.tlb.excause.spec = true ∧
      t.tlb.excause.write = false := by
  obtain ⟨write, spec⟩ := excauseFor_flags .data s 1 false true (s.imm i + s.r a)
  exact ⟨_, exec_prgadd_of_refused space (purgeCheck_of_notTranslated h), raises_trapEntry rfl s, spec, write⟩

end

/-! ## The six operations -/

/-- `prginspg` in supervisor mode (20_memory.md R186). -/
theorem exec_prginspg {a : GReg} {i : Imm9} {s : State} (super : s.psw.getLsbD 0 = false) :
    exec (.prginspg a i) s = .next
      { s with stale := s.stale.map (fun x => x.invalidatePage (s.ea a i)), tlb := s.tlb.settle } :=
  privileged_of_supervisor super _

/-- Settles O43: each operation at its word, then what it changes beside the records of what instruction fetch and
translation may still use. -/
theorem cacheOperationsChangeNoArchitecturalState : Obligations.CacheOperationsChangeNoArchitecturalState := by
  rintro p a i s _ rfl
  refine ⟨decodeSyllable_memoryWord rfl p, ?_, decodeSyllable_memoryWord rfl p, ⟨_, rfl, rfl⟩,
    decodeSyllable_memoryWord rfl p, ⟨_, rfl, rfl⟩, decodeSyllable_memoryWord rfl p, exec_prgadd_of_quiet,
    exec_prgadd_of_notTranslated, decodeSyllable_of_agree_encode Laws.Encoding.prgins (agree_sysWord p _ _),
    decodeSyllable_memoryWord rfl p, fun super => ⟨⟨_, exec_prgins super, rfl⟩, _, exec_prginspg super, rfl⟩⟩
  have run : exec (.pft a i) s = .next (prefetch (s.imm i + s.r a) s) := by rw [← ea_eq_add]; rfl
  refine ⟨_, run, ?_⟩
  obtain e | ⟨fails, e⟩ := prefetch_cases (s.imm i + s.r a) s
  · exact .inl e
  · exact .inr ⟨e, prefetchMayFail_iff.1 fails⟩

end Sys2Proof.Machine
end

section
/-! PROOF. Control transfers: words of the formats Call and Branch with either stop bit, the relative target and the one of
the link register, and the idle macro (45_control_transfer.md R470 to R478, 61_platform_devices.md R690). -/

namespace Sys2Proof.Machine

open Sys2Proof.Rules

/-! ## Words of the formats (30_encoding.md R296) -/

theorem agree_callWord (p : BitVec 1) (op : BitVec 3) (l : BitVec 1) (t : Imm23) :
    AgreeBelow 31 (callWord 0#1 op l t) (callWord p op l t) := by
  unfold AgreeBelow callWord
  iterate 6 apply agree_append
  exact nofun

theorem agree_branchWord (p o : BitVec 1) (c : BReg) (t : Imm23) :
    AgreeBelow 31 (branchWord 0#1 o c t) (branchWord p o c t) := by
  unfold AgreeBelow branchWord
  iterate 6 apply agree_append
  exact nofun

/-! ## Targets -/

/-- The sum of integers is the sum of words, and four times the offset its shift by two (45_control_transfer.md R478). -/
theorem branchTarget_eq_relativeTarget (pc : Word) (t : Imm23) : branchTarget pc t = relativeTarget pc t := by
  have offset : reg32 (t.toInt * 4) = t.signExtend 32 <<< 2 := reg32_sal t.toInt 2
  rw [branchTarget, relativeTarget, reg32_add, reg32_zext32, offset]

/-- While the speculative link register is a true copy, an indirect branch takes the value of R63
(70_reset_and_hazards.md R722). -/
theorem linkTarget_of_slrValid {s : State} (valid : s.slrValid = true) : linkTarget s = s.r 63#6 &&& 0xFFFFFFFC#32 :=
  if_pos valid

/-! ## Branches and calls -/

theorem exec_br (c : BReg) (t : Imm23) (s : State) :
    exec (.br c t) s = .next { s with nextPc := if s.b c = true then relativeTarget s.pc t else s.nextPc } := by
  have run : exec (.br c t) s = .next (if s.b c then s.jump (branchTarget s.pc t) else s) := rfl
  rw [run, branchTarget_eq_relativeTarget]
  split <;> rfl

/-- The model of `brf` asks whether the branch register is 1, the rule whether it is 0. -/
theorem exec_brf (c : BReg) (t : Imm23) (s : State) :
    exec (.brf c t) s = .next { s with nextPc := if s.b c = false then relativeTarget s.pc t else s.nextPc } := by
  have run : exec (.brf c t) s = .next (if s.b c then s else s.jump (branchTarget s.pc t)) := rfl
  rw [run, branchTarget_eq_relativeTarget]
  cases s.b c <;> rfl

theorem exec_callImm (t : Imm23) (s : State) :
    exec (.callImm t) s = .next { s.writeR 63#6 s.nextPc with nextPc := relativeTarget s.pc t } := by
  rw [← branchTarget_eq_relativeTarget]
  rfl

/-- Settles O36: each word agrees below the stop bit with the encoding of its instruction, and the address of both
link-register forms is the model's target of the link register. -/
theorem branchesAndCallsJump : Obligations.BranchesAndCallsJump := by
  refine fun p c t s => ⟨?br, exec_br c t s, ?brf, exec_brf c t s, ?callImm, exec_callImm t s, ?callLink, ?gotoLink,
    linkTarget s, wordAligned_linkTarget s, linkTarget_of_slrValid, rfl, rfl⟩
  case br => exact decodeSyllable_of_agree_encode (Laws.Encoding.br c t) (agree_branchWord p 0#1 c t)
  case brf => exact decodeSyllable_of_agree_encode (Laws.Encoding.brf c t) (agree_branchWord p 1#1 c t)
  case callImm => exact decodeSyllable_of_agree_encode (Laws.Encoding.callImm t) (agree_callWord p 0#3 0#1 t)
  case callLink => exact decodeSyllable_of_agree_encode Laws.Encoding.callLink (agree_callWord p 0#3 1#1 0#23)
  case gotoLink => exact decodeSyllable_of_agree_encode Laws.Encoding.gotoLink (agree_callWord p 1#3 1#1 0#23)

/-! ## `goto` and idle mode -/

/-- The model's test for idle mode is the condition of 61_platform_devices.md R690. -/
theorem entersIdle_iff {s : State} {t : Imm23} :
    (isIdleBundle t s && !s.pm.enb && !outputBusy s) = true ↔ EntersIdle s t := by
  simp only [isIdleBundle, EntersIdle, Bool.and_eq_true, beq_iff_eq, Bool.not_eq_true', outputBusy_eq_false, and_assoc]

theorem exec_gotoImm_of_entersIdle {s : State} {t : Imm23} (idle : EntersIdle s t) :
    exec (.gotoImm t) s = .next (enterIdle s) :=
  if_pos (entersIdle_iff.2 idle)

theorem exec_gotoImm_of_not_entersIdle {s : State} {t : Imm23} (busy : ¬EntersIdle s t) :
    exec (.gotoImm t) s = .next (s.jump (relativeTarget s.pc t)) := by
  rw [← branchTarget_eq_relativeTarget]
  exact if_neg (mt entersIdle_iff.1 busy)

/-- Settles O37: `goto` decodes from its word, and jumps or enters idle mode by the condition of R690. -/
theorem gotoJumpsOrEntersIdleMode : Obligations.GotoJumpsOrEntersIdleMode := fun p t _ =>
  ⟨decodeSyllable_of_agree_encode (Laws.Encoding.gotoImm t) (agree_callWord p 1#3 0#1 t), exec_gotoImm_of_entersIdle,
    exec_gotoImm_of_not_entersIdle⟩

end Sys2Proof.Machine
end

section
/-! PROOF. PSW access, return from trap, system call and breakpoints, and the privileged operations in user mode
(46_system.md R485 to R493, 60_exceptions.md R551, R561). -/

namespace Sys2Proof.Machine

open Sys2Proof.Rules

/-! ## Operations that raise an exception without a value -/

/-- An operation that does nothing but raise an exception reports 0 in EXADDRESS (60_exceptions.md R516). -/
theorem exists_raisesPlain_of_raised {i : Instr} {s : State} {x : Exc} (run : exec i s = raised (.plain x) s)
    (address : exceptAddress x 0#32 = 0#32) :
    ∃ t, exec i s = .next t ∧ RaisesPlain x 0#32 s t ∧ t.excauseno = BitVec.ofNat 5 x.number :=
  ⟨_, run, raisesPlain_trapEntry address s, rfl⟩

/-- Settles O41: each word agrees below the stop bit with the encoding of its instruction, that of `sbrk` in every bit. -/
theorem systemCallAndBreakpointsTrap : Obligations.SystemCallAndBreakpointsTrap := by
  refine fun p n s => ⟨?syscall, ?sbrk, ?breakOp, exists_raisesPlain_of_raised rfl rfl,
    exists_raisesPlain_of_raised rfl rfl, exists_raisesPlain_of_raised rfl rfl⟩
  case syscall => exact decodeSyllable_of_agree_encode (Laws.Encoding.syscall n) (agree_sysWord p _ n)
  case sbrk => exact decodeSyllable_of_encode rfl
  case breakOp => exact decodeSyllable_of_agree_encode Laws.Encoding.breakOp (agree_sysWord p _ _)

/-! ## Privileged operations (46_system.md R487) -/

/-- Each of the five operations has its effect behind the check of the mode. -/
theorem exec_of_isPrivileged {i : Instr} (h : IsPrivileged i) (s : State) : ∃ e, exec i s = privileged s e := by
  obtain rfl | rfl | ⟨b, rfl⟩ | ⟨b, rfl⟩ | ⟨a, k, rfl⟩ := h <;> exact ⟨_, rfl⟩

theorem privileged_of_user {s : State} (user : s.psw.getLsbD 0 = true) (e : Host.Outcome State Fault Refusal) :
    privileged s e = raised (.plain .illInst) s := if_pos user

/-- Settles O42: in user mode the check answers trap entry, whatever the effect behind it. -/
theorem privilegedOperationsTrapInUserMode : Obligations.PrivilegedOperationsTrapInUserMode := by
  intro i s priv user
  obtain ⟨e, run⟩ := exec_of_isPrivileged priv s
  obtain ⟨t, next, raises, -⟩ := exists_raisesPlain_of_raised (run.trans (privileged_of_user user e)) rfl
  exact ⟨t, next, raises⟩

/-! ## Writes of the PSW (46_system.md R493) -/

/-- The model clears bit 12 after it has masked the value; the rule masks with that bit left out. -/
theorem pswWrite_eq_pswStored (old new : Word) : pswWrite old new = pswStored old new := by
  have mask : pswWritable &&& ~~~0x00001000#32 = 0x031F#32 := by decide
  rw [pswWrite, pswStored, BitVec.and_assoc, mask]
  rfl

/-- The effect that `pswset` with an operand of zero has as `syncins` is on the record of stored words alone (log 15). -/
theorem syncinsEffect_changes (v : Word) (s : State) : ∃ xs, syncinsEffect v s = { s with stale := xs } := by
  unfold syncinsEffect
  split
  · exact ⟨_, rfl⟩
  · exact ⟨s.stale, rfl⟩

theorem exec_pswset {b : GReg} {s : State} (super : s.psw.getLsbD 0 = false) :
    ∃ xs, exec (.pswset b) s =
      .next { s with psw := pswStored s.psw (s.psw ||| s.r b), tlb := s.tlb.settle, stale := xs } := by
  rw [← pswWrite_eq_pswStored]
  obtain ⟨xs, e⟩ := syncinsEffect_changes (s.r b)
    { s with psw := pswWrite s.psw (s.psw ||| s.r b), tlb := s.tlb.settle }
  exact ⟨xs, (privileged_of_supervisor super _).trans (congrArg _ e)⟩

theorem exec_pswclr {b : GReg} {s : State} (super : s.psw.getLsbD 0 = false) :
    exec (.pswclr b) s = .next { s with psw := pswStored s.psw (s.psw &&& ~~~s.r b), tlb := s.tlb.settle } := by
  rw [← pswWrite_eq_pswStored]
  exact privileged_of_supervisor super _

/-- Settles O39: the words of the format Psw are those of loads and stores with the unused fields zero. -/
theorem pswSetAndClear : Obligations.PswSetAndClear := by
  refine fun p b s => ⟨decodeSyllable_memoryWord (i := 0#9) (x := b) (a := 0#6) rfl p,
    decodeSyllable_memoryWord (i := 0#9) (x := b) (a := 0#6) rfl p, fun super => ⟨?set, ?clear⟩⟩
  case set =>
    obtain ⟨xs, run⟩ := exec_pswset (b := b) super
    exact ⟨_, run, rfl, rfl⟩
  case clear => exact ⟨_, exec_pswclr super, rfl, rfl⟩

/-! ## Return from a trap (46_system.md R488, R494) -/

theorem pick_mem {α : Type} (n : Nat) (new : α) (olds : List α) : pick n new olds ∈ new :: olds := by
  rw [pick, List.getD_eq_getElem?_getD]
  cases h : (new :: olds)[n]? with
  | none => exact List.mem_cons_self
  | some x => exact List.mem_of_getElem? h

theorem rfiUse_mem (free k : Nat) (x : SavedReg) : rfiUse free k x ∈ x.value :: x.olds.map Prod.fst := by
  obtain ⟨value, olds⟩ := x
  cases olds with
  | nil => exact List.mem_cons_self
  | cons o olds => exact pick_mem (Config.freeSavedChoice free k) value ((o :: olds).map Prod.fst)

/-- What `rfi` uses of a saved register is its value or one it held before a recent store. -/
theorem savedHolds_rfiUse (free k : Nat) (x : SavedReg) : SavedHolds x (rfiUse free k x) := by
  obtain newest | older := List.mem_cons.1 (rfiUse_mem free k x)
  · exact .inl newest
  · obtain ⟨⟨v, n⟩, held, rfl : v = _⟩ := List.mem_map.1 older
    exact .inr ⟨n, held⟩

/-- Settles O40: the four values are those the model uses of the saved registers. -/
theorem returnFromTrapRestoresTheSavedPair : Obligations.ReturnFromTrapRestoresTheSavedPair := fun p s =>
  ⟨decodeSyllable_of_agree_encode Laws.Encoding.rfi (agree_callWord p 2#3 0#1 0#23), fun super =>
    ⟨returnFromTrap s, rfiUse s.free 0 s.savedPc, rfiUse s.free 1 s.savedPsw, rfiUse s.free 2 s.savedSavedPc,
      rfiUse s.free 3 s.savedSavedPsw, exec_rfi super, savedHolds_rfiUse .., savedHolds_rfiUse .., savedHolds_rfiUse ..,
      savedHolds_rfiUse .., rfl, pswWrite_eq_pswStored .., rfl, rfl, rfl⟩⟩

end Sys2Proof.Machine
end

section
/-! PROOF. Every instruction and every step answers a next state, and how an operation, a bundle and a step of the core can
end: completed, waiting on an SDI port, or in a trap or a debug interrupt (10_state.md R95, 60_exceptions.md R513). -/

namespace Sys2Proof.Machine

open Sys2Proof.Rules

/-! ## Nothing stops the machine -/

theorem privileged_next (s t : State) : ∃ u, privileged s (.next t) = .next u := by
  unfold privileged
  split <;> exact ⟨_, rfl⟩

/-- Every instruction answers a next state. -/
theorem exec_next (i : Instr) (s : State) : ∃ t, exec i s = .next t := by
  by_cases only : RegisterOnly i
  · obtain ⟨t, ht, -⟩ := exec_registerOnly only s
    exact ⟨t, ht⟩
  cases i
  case ldw | ldh | ldhu | ldb | ldbu => exact loadOp_next ..
  case ldwD | ldhD | ldhuD | ldbD | ldbuD => exact disLoadOp_next ..
  case stw | sth | stb => exact storeOp_next ..
  case prgins | prginspg | pswset | pswclr | rfi => exact privileged_next ..
  case imml | immr | sbrk | syscall | breakOp | pft | prgset | sync | br | brf | callImm | callLink | gotoLink =>
    exact ⟨_, rfl⟩
  case prgadd =>
    simp only [exec, execPrgadd]
    split
    · exact ⟨_, rfl⟩
    · split <;> exact ⟨_, rfl⟩
  case gotoImm =>
    simp only [exec, execGotoImm]
    split <;> exact ⟨_, rfl⟩
  all_goals exact absurd (by simp [RegisterOnly, kindOf]) only

theorem runOp_next (s : State) (o : Instr × Option Instr) : ∃ t, runOp s o = .next t := by
  obtain ⟨i, _ | e⟩ := o
  · exact exec_next i s
  · obtain ⟨t, ht⟩ := exec_next e s
    simp only [runOp, ht]
    exact exec_next i t

theorem runOps_next (s : State) (ops : List (Instr × Option Instr)) : ∃ rs, runOps s ops = .next rs :=
  runOps_exists fun o _ => runOp_next s o

theorem evalWords_next (s : State) (ws : List Word) : ∃ e, evalWords s ws = .next e := by
  unfold evalWords
  split
  · exact ⟨_, rfl⟩
  · rename_i is _
    obtain ⟨rs, results⟩ := runOps_next (s.withNextPc ws.length) (operations s.pc is)
    rw [results]
    exact ⟨_, rfl⟩

theorem evalBundle_next (async : List Raise) (s : State) : ∃ e, evalBundle async s = .next e := by
  unfold evalBundle
  split
  · exact ⟨_, rfl⟩
  · exact evalWords_next s _

theorem boundaryStep_next (s : State) : ∃ t, boundaryStep s = .next t := by
  obtain ⟨e, he⟩ := evalBundle_next (asyncRaises s) s
  unfold boundaryStep
  split
  · exact ⟨_, rfl⟩
  · rw [he]
    exact ⟨_, rfl⟩

theorem stalledStep_next (ws : List Word) (s : State) : ∃ t, stalledStep ws s = .next t := by
  obtain ⟨e, he⟩ := evalWords_next s ws
  unfold stalledStep
  rw [he]
  exact ⟨_, rfl⟩

/-- The core answers a next state, idle, waiting or at a boundary. -/
theorem coreStep_next (s : State) : ∃ t, coreStep s = .next t := by
  unfold coreStep
  dsimp only
  split
  · exact ⟨_, rfl⟩
  · split
    · exact stalledStep_next _ _
    · exact boundaryStep_next _

/-- Settles O57: what each instruction calls answers a next state, and so do the bundle, the core and the environment. -/
theorem noInstructionStopsTheMachine : Obligations.NoInstructionStopsTheMachine := by
  refine ⟨exec_next, fun s => ?_⟩
  obtain ⟨t, ht⟩ := coreStep_next s
  refine ⟨envTick t, ?_⟩
  unfold step runStep
  rw [ht]

/-! ## How an access ends -/

/-- The exception records a TLB_EXCAUSE only if it is DTLB (21_translation.md R257). -/
def Raise.OfOperation (r : Raise) : Prop := r.tlb ≠ none → r.exc = .dtlb

/-- `s` with an access that waits on port `i`, its time-out at `left`. -/
def waitingOn (i : Fin 4) (left : Word) (s : State) : State :=
  { s.setSdi i { s.sdi[i] with timeout := left } with signal := .stalled, nextPc := s.pc }

/-- Everything a load or a store can lead to. -/
inductive Access (s : State) : State → Prop where
  | raises (r : Raise) (kind : r.OfOperation) : Access s (trapEntry r s)
  | waits (i : Fin 4) (left : Word) : Access s (waitingOn i left s)
  | takes (i : Fin 4) (items : List Word) (d : GReg) (v : Word) : Access s ((sdiMoved i items s).writeR d v)
  | puts (i : Fin 4) (items : List Word) : Access s (sdiMoved i items s)
  | readsRegister (r : CReg) (d : GReg) (v : Word) (allowed : accessCode s r ≠ .na) :
    Access s ((cregReadEffect s r).writeR d v)
  | writesRegister (r : CReg) (v : Word) (allowed : accessCode s r ≠ .na) :
    Access s { cregUpdate s r v with cregStored := some r }
  | reads (d : GReg) (v : Word) (xs : List StaleWord) (e : Bool) :
    Access s { s.writeR d v with stale := xs, busErrorPending := e }
  | writes (m : List Host.Cell) (xs : List StaleWord) (e : Bool) (x : Intc) (y : Timers) (z : Dsu) :
    Access s { s with mem := m, stale := xs, busErrorPending := e, intc := x, timers := y, dsu := z }

/-- An exception without a TLB_EXCAUSE. -/
theorem ofOperation_at (x : Exc) (v : Word) : (Raise.at x v).OfOperation := fun h => absurd rfl h

theorem sdiStall_access {i : Fin 4} {s t : State} (h : sdiStall i s = .next t) : Access s t := by
  obtain ⟨-, rfl⟩ | ⟨-, -, rfl⟩ | ⟨-, -, rfl⟩ := sdiStall_cases h
  · have same : waitingOn i s.sdi[i].timeout s = { s with signal := .stalled, nextPc := s.pc } := by
      have : s.sdi.set i s.sdi[i] = s.sdi := Vector.set_getElem_self _
      simp only [waitingOn, State.setSdi, this]
    exact same ▸ .waits i s.sdi[i].timeout
  · exact .raises _ (ofOperation_at _ _)
  · exact .waits i _

/-- What the check of control register space refuses and admits. -/
theorem cregCheck_cases (s : State) (a : Word) :
    (∃ x, cregCheck s a = .error (.at x a)) ∨ ∃ r, cregCheck s a = .ok r ∧ accessCode s r ≠ .na := by
  unfold cregCheck
  split
  · exact .inl ⟨_, rfl⟩
  · split
    · exact .inl ⟨_, rfl⟩
    · exact .inr ⟨_, rfl, ‹_›⟩

theorem ofOperation_of_cregCheck {s : State} {a : Word} {e : Raise} (h : cregCheck s a = .error e) : e.OfOperation := by
  obtain ⟨x, hx⟩ | ⟨r, hr, -⟩ := cregCheck_cases s a
  · cases hx.symm.trans h
    exact ofOperation_at x a
  · cases hr.symm.trans h

theorem accessCode_of_cregCheck {s : State} {a : Word} {r : CReg} (h : cregCheck s a = .ok r) : accessCode s r ≠ .na := by
  obtain ⟨x, hx⟩ | ⟨q, hq, allowed⟩ := cregCheck_cases s a
  · cases hx.symm.trans h
  · cases hq.symm.trans h
    exact allowed

theorem cregLoad_access {a : Word} {d : GReg} {s t : State} (h : cregLoad a d s = .next t) : Access s t := by
  obtain ⟨e, he, rfl⟩ | ⟨i, -, h⟩ | ⟨r, hr, rfl⟩ := cregLoad_cases h
  · exact .raises e (ofOperation_of_cregCheck he)
  · obtain h | ⟨-, rfl⟩ | ⟨-, rfl⟩ | ⟨v, rest, -, -, -, rfl⟩ | ⟨-, -, rfl⟩ := sdiDataLoad_cases h
    · exact sdiStall_access h
    · exact .reads d _ s.stale s.busErrorPending
    · exact .takes i _ d _
    · exact .takes i _ d _
    · exact .reads d _ s.stale s.busErrorPending
  · exact .readsRegister r d _ (accessCode_of_cregCheck hr)

theorem cregStore_access {a v : Word} {s t : State} (h : cregStore a v s = .next t) : Access s t := by
  obtain ⟨e, he, rfl⟩ | ⟨i, -, h⟩ | ⟨r, hr, rfl⟩ := cregStore_cases h
  · exact .raises e (ofOperation_of_cregCheck he)
  · obtain h | rfl | ⟨-, -, rfl⟩ := sdiDataStore_cases h
    · exact sdiStall_access h
    · exact .writes t.mem t.stale t.busErrorPending t.intc t.timers t.dsu
    · exact .puts i _
  · exact .writesRegister r v (accessCode_of_cregCheck hr)

theorem readCheck_ofOperation {w : Width} {a : Word} {s : State} {e : Raise} (h : readCheck w a s = some e) :
    e.OfOperation := by
  unfold readCheck at h
  split at h
  · cases h; exact ofOperation_at _ _
  · split at h <;> cases h
    exact fun _ => rfl

theorem disReadCheck_ofOperation {w : Width} {a : Word} {s : State} {e : Raise} (h : disReadCheck w a s = some e) :
    e.OfOperation := by
  unfold disReadCheck at h
  split at h
  · cases h; exact ofOperation_at _ _
  · split at h <;> cases h
    exact fun _ => rfl

theorem writeCheck_ofOperation {w : Width} {a : Word} {s : State} {e : Raise} (h : writeCheck w a s = some e) :
    e.OfOperation := by
  unfold writeCheck at h
  split at h
  · cases h; exact ofOperation_at _ _
  · split at h <;> cases h
    exact fun _ => rfl

theorem purgeCheck_ofOperation {a : Word} {s : State} {e : Raise} (h : purgeCheck a s = some e) : e.OfOperation := by
  unfold purgeCheck at h
  split at h <;> cases h
  exact fun _ => rfl

theorem loadOp_access {w : Width} {f : Word → Word} {d a : GReg} {k : Imm9} {s t : State}
    (h : loadOp w f d a k s = .next t) : Access s t := by
  obtain ⟨-, rfl⟩ | ⟨-, -, ⟨-, h⟩ | ⟨-, rfl⟩⟩ | ⟨-, -, ⟨e, he, rfl⟩ | ⟨-, rfl⟩⟩ := loadOp_cases h
  · exact .raises _ (ofOperation_at _ _)
  · exact cregLoad_access h
  · exact .raises _ (ofOperation_at _ _)
  · exact .raises e (readCheck_ofOperation he)
  · obtain ⟨v, xs, e, changed⟩ := dataRead_changes w f (s.ea a k) d s
    exact changed ▸ .reads d v xs e

theorem disLoadOp_access {w : Width} {f : Word → Word} {d a : GReg} {k : Imm9} {s t : State}
    (h : disLoadOp w f d a k s = .next t) : Access s t := by
  obtain ⟨-, rfl⟩ | ⟨-, -, rfl⟩ | ⟨-, -, ⟨e, he, rfl⟩ | ⟨-, rfl⟩⟩ := disLoadOp_cases h
  · exact .raises _ (ofOperation_at _ _)
  · exact .reads d _ s.stale s.busErrorPending
  · exact .raises e (disReadCheck_ofOperation he)
  · obtain ⟨v, xs, e, changed⟩ := disRead_changes w f (s.ea a k) d s
    exact changed ▸ .reads d v xs e

theorem storeOp_access {w : Width} {b a : GReg} {k : Imm9} {s t : State} (h : storeOp w b a k s = .next t) :
    Access s t := by
  obtain ⟨-, rfl⟩ | ⟨-, -, ⟨-, h⟩ | ⟨-, rfl⟩⟩ | ⟨-, -, ⟨e, he, rfl⟩ | ⟨-, rfl⟩⟩ := storeOp_cases h
  · exact .raises _ (ofOperation_at _ _)
  · exact cregStore_access h
  · exact .raises _ (ofOperation_at _ _)
  · exact .raises e (writeCheck_ofOperation he)
  · obtain ⟨m, xs, e, x, y, z, changed, -⟩ :=
      busWrite_changes s w (cachedAccess s (s.ea a k)) (translate s (s.ea a k)) (s.r b)
    exact changed ▸ .writes m xs e x y z

/-! ## How an operation ends -/

/-- How an operation that started in `s` ended: it raised, it waits on an SDI port, or it completed (log 6). -/
inductive Ended (s : State) : State → Prop where
  | raised (r : Raise) (kind : r.OfOperation) : Ended s (trapEntry r s)
  | waits (i : Fin 4) (left : Word) : Ended s (waitingOn i left s)
  | completed {t : State} (signal : t.signal = s.signal) : Ended s t

theorem cregUpdate_signal (s : State) (r : CReg) (v : Word) : (cregUpdate s r v).signal = s.signal := by
  unfold cregUpdate
  split <;> (try split) <;> rfl

theorem Access.ended {s t : State} (h : Access s t) : Ended s t := by
  cases h with
  | raises r kind => exact .raised r kind
  | waits i left => exact .waits i left
  | readsRegister r d v =>
    obtain ⟨x, e⟩ := cregReadEffect_changes s r
    exact .completed (by rw [e]; rfl)
  | writesRegister r v => exact .completed (cregUpdate_signal s r v)
  | takes | puts | reads | writes => exact .completed rfl

theorem WritesDests.signal {s t : State} {g : Option GReg} {b : Option BReg} (h : WritesDests s g b t) :
    t.signal = s.signal := by
  cases h <;> rfl

theorem privileged_ended {s t u : State} (h : privileged s (.next u) = .next t) (signal : u.signal = s.signal) :
    Ended s t := by
  obtain ⟨-, rfl⟩ | ⟨-, h⟩ := privileged_cases h
  · exact .raised _ (ofOperation_at _ _)
  · exact next_inj h ▸ .completed signal

/-- How each operation can end. -/
theorem exec_ended {i : Instr} {s t : State} (h : exec i s = .next t) : Ended s t := by
  by_cases only : RegisterOnly i
  · obtain ⟨u, hu, writes⟩ := exec_registerOnly only s
    exact next_inj (hu.symm.trans h) ▸ .completed writes.signal
  cases i
  case ldw | ldh | ldhu | ldb | ldbu => exact (loadOp_access h).ended
  case ldwD | ldhD | ldhuD | ldbD | ldbuD => exact (disLoadOp_access h).ended
  case stw | sth | stb => exact (storeOp_access h).ended
  case sbrk | syscall | breakOp => exact raised_eq h ▸ .raised _ (ofOperation_at _ _)
  case prgins | prginspg | pswclr | rfi => exact privileged_ended h rfl
  case pswset =>
    refine privileged_ended h ?_
    unfold syncinsEffect
    split <;> rfl
  case imml | immr | prgset | sync | callImm | callLink | gotoLink => exact next_inj h ▸ .completed rfl
  case pft a k =>
    obtain rfl := next_inj h
    obtain e | ⟨-, e⟩ := prefetch_cases (s.ea a k) s <;> rw [e] <;> exact .completed rfl
  case prgadd =>
    simp only [exec, execPrgadd] at h
    split at h
    · exact next_inj h ▸ .completed rfl
    · split at h
      · exact raised_eq h ▸ .raised _ (purgeCheck_ofOperation ‹_›)
      · obtain rfl := next_inj h
        unfold purgeAddress
        split <;> exact .completed rfl
  case gotoImm =>
    simp only [exec, execGotoImm] at h
    split at h <;> exact next_inj h ▸ .completed rfl
  case br | brf =>
    obtain rfl := next_inj h
    split <;> exact .completed rfl
  all_goals exact absurd (by simp [RegisterOnly, kindOf]) only

theorem ended_of_raised {s t : State} {x : Exc} (h : Ended s t) (done : s.signal = .done) (raised : t.signal = .raised x) :
    ∃ r : Raise, r.OfOperation ∧ r.exc = x ∧ t = trapEntry r s := by
  cases h with
  | raised r kind => exact ⟨r, kind, Signal.raised.inj raised, rfl⟩
  | waits => cases raised
  | completed signal => cases (signal.symm.trans raised).symm.trans done

theorem ended_of_stalled {s t : State} (h : Ended s t) (done : s.signal = .done) (stalled : t.signal = .stalled) :
    ∃ i left, t = waitingOn i left s := by
  cases h with
  | raised => cases stalled
  | waits i left => exact ⟨i, left, rfl⟩
  | completed signal => cases (signal.symm.trans stalled).symm.trans done

/-! ## How a bundle ends -/

/-- How an evaluated bundle `ws` that started in `s` ended (10_state.md R95 steps 3 to 5, 61_platform_devices.md R627). -/
inductive WordsEnd (s : State) (ws : List Word) : BundleEnd → Prop where
  | illegal (x : Exc) (trap : x = .sbreak ∨ x = .illInst) (none : legalBundle s.pc ws = none) :
    WordsEnd s ws (trapEnd (.plain x) s)
  | trapped {is : List Instr} {o : Instr × Option Instr} {ext : Option Imm23} (r : Raise) (kind : r.OfOperation)
    (legal : legalBundle s.pc ws = some is) (member : o ∈ operations s.pc is)
    (result : runOp (s.withNextPc ws.length) o = .next (trapEntry r { s.withNextPc ws.length with ext := ext })) :
    WordsEnd s ws (trapEnd r { s.withNextPc ws.length with ext := ext })
  | waiting (i : Fin 4) (left : Word) (ext : Option Imm23) :
    WordsEnd s ws ⟨.waiting ws, waitingOn i left { s.withNextPc ws.length with ext := ext }⟩
  | committed {is : List Instr} {rs : List (Instr × State)} (legal : legalBundle s.pc ws = some is)
    (results : runOps (s.withNextPc ws.length) (operations s.pc is) = .next rs) (done : ∀ x ∈ rs, x.2.signal = .done) :
    WordsEnd s ws ⟨.committed is, commitAll (s.withNextPc ws.length) rs⟩

theorem runOp_ended {pc : Word} {is : List Instr} {o : Instr × Option Instr} (ho : o ∈ operations pc is) {s t : State}
    (h : runOp s o = .next t) : ∃ x, Ended { s with ext := x } t := by
  obtain ⟨x, hx⟩ := runOp_of_operations ho s
  exact ⟨x, exec_ended (hx.symm.trans h)⟩

/-- How the trap of a list of results comes from the first and the rest. -/
theorem pickTrap_cons_cases (t : State) (ts : List State) :
    ((∀ x, t.signal ≠ .raised x) ∧ pickTrap (t :: ts) = pickTrap ts) ∨
    ∃ x, t.signal = .raised x ∧
      ((pickTrap (t :: ts) = some (x, t) ∧ ∀ q, pickTrap ts = some q → x.number ≤ q.1.number) ∨
       ∃ q, pickTrap ts = some q ∧ q.1.number < x.number ∧ pickTrap (t :: ts) = some q) := by
  rw [pickTrap]
  cases signal : t.signal with
  | done | stalled => exact .inl ⟨nofun, rfl⟩
  | raised x =>
    refine .inr ⟨x, rfl, ?_⟩
    cases rest : pickTrap ts with
    | none => exact .inl ⟨rfl, by simp⟩
    | some q =>
      by_cases higher : q.1.number < x.number
      · exact .inr ⟨q, rfl, higher, if_pos higher⟩
      · exact .inl ⟨if_neg higher, fun p hp => Option.some.inj hp ▸ Nat.not_lt.1 higher⟩

/-- No trap is taken only where no operation raised. -/
theorem not_raised_of_pickTrap {ts : List State} (h : pickTrap ts = none) : ∀ t ∈ ts, ∀ x, t.signal ≠ .raised x := by
  induction ts with
  | nil => simp
  | cons t ts ih =>
    obtain ⟨quiet, e⟩ | ⟨x, -, ⟨e, -⟩ | ⟨q, -, -, e⟩⟩ := pickTrap_cons_cases t ts
    · exact List.forall_mem_cons.2 ⟨quiet, ih (e.symm.trans h)⟩
    · simp [h] at e
    · simp [h] at e

/-- The trap taken is of an operation that raised, and none that raised has a higher priority (60_exceptions.md R520). -/
theorem pickTrap_eq_some {ts : List State} {q : Exc × State} (h : pickTrap ts = some q) :
    q.2.signal = .raised q.1 ∧ ∀ t ∈ ts, ∀ x, t.signal = .raised x → q.1.number ≤ x.number := by
  induction ts generalizing q with
  | nil => simp [pickTrap] at h
  | cons t ts ih =>
    obtain ⟨quiet, e⟩ | ⟨x, raised, ⟨e, least⟩ | ⟨p, rest, higher, e⟩⟩ := pickTrap_cons_cases t ts
    · obtain ⟨signal, first⟩ := ih (e.symm.trans h)
      exact ⟨signal, List.forall_mem_cons.2 ⟨fun x hx => absurd hx (quiet x), first⟩⟩
    · obtain rfl := Option.some.inj (e.symm.trans h)
      refine ⟨raised, List.forall_mem_cons.2 ⟨fun y hy => ?_, fun u hu y hy => ?_⟩⟩
      · obtain rfl := Signal.raised.inj (raised.symm.trans hy)
        exact Nat.le_refl _
      · cases rest : pickTrap ts with
        | none => exact absurd hy (not_raised_of_pickTrap rest u hu y)
        | some p => exact (least p rest).trans ((ih rest).2 u hu y hy)
    · obtain rfl := Option.some.inj (e.symm.trans h)
      obtain ⟨signal, first⟩ := ih rest
      refine ⟨signal, List.forall_mem_cons.2 ⟨fun y hy => ?_, first⟩⟩
      obtain rfl := Signal.raised.inj (raised.symm.trans hy)
      exact Nat.le_of_lt higher

/-- The results of a bundle whose evaluation began with nothing raised end it in one of the four ways. -/
theorem evalWords_ends {s : State} {ws : List Word} {e : BundleEnd} (done : s.signal = .done)
    (h : evalWords s ws = .next e) : WordsEnd s ws e := by
  unfold evalWords at h
  split at h
  · cases h
    exact .illegal _ (by split <;> simp) ‹_›
  rename_i is legal
  obtain ⟨rs, results⟩ := runOps_next (s.withNextPc ws.length) (operations s.pc is)
  have source : ∀ t ∈ rs.map Prod.snd, ∃ o ∈ operations s.pc is, runOp (s.withNextPc ws.length) o = .next t := by
    intro t ht
    obtain ⟨x, hx, rfl⟩ := List.mem_map.1 ht
    obtain ⟨o, ho, -, result⟩ := (mem_runOps results x).1 hx
    exact ⟨o, ho, result⟩
  rw [results] at h
  obtain rfl : outcomeOf (s.withNextPc ws.length) ws is rs = e := by cases h; rfl
  unfold outcomeOf
  split
  · rename_i q picked
    obtain ⟨o, ho, result⟩ := source q.2 (pickTrap_mem picked)
    obtain ⟨x, ended⟩ := runOp_ended ho result
    obtain ⟨r, kind, rx, rt⟩ := ended_of_raised ended done (pickTrap_eq_some picked).1
    rw [rt] at result ⊢
    exact rx ▸ .trapped r kind legal ho result
  rename_i quiet
  split
  · rename_i t found
    obtain ⟨o, ho, result⟩ := source t (List.mem_of_find?_eq_some found)
    obtain ⟨x, ended⟩ := runOp_ended ho result
    have stalled : t.signal = .stalled := by simpa using List.find?_some found
    obtain ⟨i, left, rfl⟩ := ended_of_stalled ended done stalled
    exact .waiting i left x
  · rename_i running
    refine .committed legal results fun x hx => ?_
    have mem : x.2 ∈ rs.map Prod.snd := List.mem_map_of_mem hx
    have awake := List.find?_eq_none.1 running x.2 mem
    cases signal : x.2.signal with
    | done => rfl
    | raised y => exact absurd signal (not_raised_of_pickTrap quiet x.2 mem y)
    | stalled => simp [signal] at awake

/-! ## How a step of the core ends -/

/-- What the step of the core begins with: the trigger is sampled, an idle core wakes, the bundle's accesses are noted. -/
def begun (s : State) : State := noteAccesses { sampleTrigger s with coreIdle := false }

/-- Before the bundle the request for a debug interrupt, idle mode and what the micro-TLBs may hold are all that changes. -/
theorem begun_changes (s : State) :
    ∃ h, begun s = { sampleTrigger s with coreIdle := false, tlb := { s.tlb with history := h } } :=
  noteAccesses_changes { sampleTrigger s with coreIdle := false }

theorem begun_of_awake {s : State} (awake : s.coreIdle = false) : begun s = noteAccesses (sampleTrigger s) := by
  unfold begun
  rw [eq_of_awake (s := sampleTrigger s) awake]

theorem debugPending_begun (s : State) : debugPending (begun s) = debugPending (sampleTrigger s) := by
  obtain ⟨h, e⟩ := begun_changes s
  rw [e]
  rfl

/-- How a turn of the core that began in `n` ended (10_state.md R95, 61_platform_devices.md R627). -/
inductive TurnEnd (n : State) : State → Prop where
  | debug (due : debugPending n = true) : TurnEnd n (finish n ⟨.debug, debugEntry n⟩)
  | trap (r : Raise) (xs : List StaleWord) : TurnEnd n (finish n (trapEnd r { n with stale := xs }))
  | evaluated {ws : List Word} {e : BundleEnd} (result : evalWords n ws = .next e) : TurnEnd n (finish n e)

theorem boundaryStep_ends {n t : State} (h : boundaryStep n = .next t) : TurnEnd n t := by
  unfold boundaryStep at h
  split at h
  · exact next_inj h ▸ .debug ‹_›
  · obtain ⟨e, he⟩ := evalBundle_next (asyncRaises n) n
    rw [he] at h
    obtain rfl := next_inj h
    obtain ⟨r, rfl⟩ | he := evalBundle_cases he
    · obtain ⟨_, _, -, -, -, dropped⟩ | dropped := dropFailedLine_cases (fetchBundle n) n <;> rw [dropped]
      · exact .trap r _
      · exact .trap r n.stale
    · exact .evaluated he

theorem stalledStep_ends {ws : List Word} {n t : State} (h : stalledStep ws n = .next t) : TurnEnd n t := by
  obtain ⟨e, he, rfl⟩ := stalledStep_cases h
  unfold stallEnd
  split
  · exact .evaluated he
  · split
    · exact .debug ‹_›
    · split
      · exact .trap _ n.stale
      · exact .evaluated he

/-- The core stays idle, or takes a turn. -/
theorem coreStep_ends {s t : State} (h : coreStep s = .next t) : t = sampleTrigger s ∨ TurnEnd (begun s) t := by
  obtain ⟨-, -, rfl⟩ | ⟨ws, -, h⟩ | ⟨-, h⟩ := coreStep_cases h
  · exact .inl rfl
  · exact .inr (stalledStep_ends h)
  · exact .inr (boundaryStep_ends h)

end Sys2Proof.Machine
end

section
/-! PROOF. User mode: no operation, no bundle and no end of a step changes privileged state but by trap entry or debug
entry, and debug mode is entered by debug entry alone (60_exceptions.md R560 to R562, 10_state.md R48). -/

namespace Sys2Proof.Machine

open Sys2Proof.Rules

/-! ## Privileged state -/

/-- The part of an SDI port that its CONTROL and COUNT registers hold. -/
def SdiPort.privilegedPart (p : SdiPort) : SdiPort := { p with resetIn := false, timeout := 0#32, chan := [] }

/-- The privileged state of `s`, in the state after reset (60_exceptions.md R561). -/
def State.privilegedPart (s : State) : State :=
  { State.resetWith s.cfg with
    psw := s.psw, handlerPc := s.handlerPc, savedPsw := .of s.savedPsw.value, savedPc := .of s.savedPc.value
    savedSavedPsw := .of s.savedSavedPsw.value, savedSavedPc := .of s.savedSavedPc.value, excauseno := s.excauseno
    exaddress := s.exaddress, scratch := s.scratch, partition := s.partition
    tlb := { s.tlb with history := TlbHistory.empty }, scu := s.scu, dbreak := s.dbreak, ibreak := s.ibreak
    pm := { s.pm with idle := false, cnt := Vector.replicate 4 0#32 }, sdi := s.sdi.map SdiPort.privilegedPart }

/-- States with the same privileged part agree in all that the rule names. -/
theorem samePrivilegedState_of_eq {s t : State} (h : t.privilegedPart = s.privilegedPart) : SamePrivilegedState s t := by
  have part : ∀ {α : Type} (f : State → α), f t.privilegedPart = f s.privilegedPart := fun f => congrArg f h
  have port : ∀ {α : Type} (f : SdiPort → α) (i : Fin 4), f t.sdi[i].privilegedPart = f s.sdi[i].privilegedPart :=
    fun f i => by simpa [State.privilegedPart] using part (fun u => f u.sdi[i])
  exact ⟨part State.psw, part State.handlerPc, part (·.savedPsw.value), part (·.savedPc.value),
    part (·.savedSavedPsw.value), part (·.savedSavedPc.value), part State.excauseno, part State.exaddress,
    part State.scratch, part State.partition, part (fun u => { u.tlb with history := s.tlb.history }), part State.scu,
    part State.dbreak, part State.ibreak, part (·.pm.enb), part (·.pm.events), part (·.pm.pclk), part State.cfg, fun i =>
    ⟨port SdiPort.priv i, port SdiPort.resetOut i, port SdiPort.timeoutDisable i, port SdiPort.count i⟩⟩

/-- Items and the time-out of an SDI port are not privileged. -/
theorem privilegedPart_setSdi (s : State) (i : Fin 4) {p : SdiPort} (h : p.privilegedPart = s.sdi[i].privilegedPart) :
    (s.setSdi i p).privilegedPart = s.privilegedPart := by
  have ports : (s.sdi.set i p).map SdiPort.privilegedPart = s.sdi.map SdiPort.privilegedPart := by
    have same : (s.sdi.map SdiPort.privilegedPart)[i] = s.sdi[i].privilegedPart := by simp
    rw [Vector.map_set, h, ← same]
    exact Vector.set_getElem_self _
  unfold State.privilegedPart State.setSdi
  dsimp only
  rw [ports]

/-! ## Operations in user mode -/

/-- A user reaches DATA and READY of the SDI ports alone (61_platform_devices.md R630). -/
theorem sdi_of_userAccess {s : State} {r : CReg} (h : userAccess s r ≠ .na) :
    ∃ i, r = .sdiData i ∨ r = .sdiReady i := by
  unfold userAccess at h
  split at h
  · exact ⟨_, .inl rfl⟩
  · exact ⟨_, .inr rfl⟩
  · exact absurd rfl h

theorem sdi_of_accessCode {s : State} (user : s.psw.getLsbD 0 = true) {r : CReg} (h : accessCode s r ≠ .na) :
    ∃ i, r = .sdiData i ∨ r = .sdiReady i := by
  have mode : s.userMode = true := user
  rw [accessCode, if_pos mode] at h
  exact sdi_of_userAccess h

theorem waitingOn_privilegedPart (i : Fin 4) (left : Word) (s : State) :
    (waitingOn i left s).privilegedPart = s.privilegedPart :=
  privilegedPart_setSdi s i (p := { s.sdi[i] with timeout := left }) rfl

theorem sdiMoved_privilegedPart (i : Fin 4) (items : List Word) (s : State) :
    (sdiMoved i items s).privilegedPart = s.privilegedPart := privilegedPart_setSdi s i rfl

/-- A load or a store of a user raises or leaves privileged state alone. -/
theorem Access.user {s t : State} (h : Access s t) (user : s.psw.getLsbD 0 = true) :
    (∃ r, t = trapEntry r s) ∨ t.privilegedPart = s.privilegedPart := by
  cases h with
  | raises r => exact .inl ⟨r, rfl⟩
  | waits i left => exact .inr (waitingOn_privilegedPart i left s)
  | takes i items => exact .inr (sdiMoved_privilegedPart i items s)
  | puts i items => exact .inr (sdiMoved_privilegedPart i items s)
  | readsRegister r d v allowed => obtain ⟨i, rfl | rfl⟩ := sdi_of_accessCode user allowed <;> exact .inr rfl
  | writesRegister r v allowed => obtain ⟨i, rfl | rfl⟩ := sdi_of_accessCode user allowed <;> exact .inr rfl
  | reads | writes => exact .inr rfl

/-- The operations on the PSW are privileged. -/
theorem isPrivileged_of_kind {i : Instr} (h : kindOf i = .psw) : IsPrivileged i := by
  cases i
  case pswset b => exact .inr (.inr (.inl ⟨b, rfl⟩))
  case pswclr b => exact .inr (.inr (.inr (.inl ⟨b, rfl⟩)))
  all_goals cases h

/-- An operation of a user raises or leaves privileged state alone (60_exceptions.md R561). -/
theorem exec_user {i : Instr} {s t : State} (user : s.psw.getLsbD 0 = true) (h : exec i s = .next t) :
    (∃ r, t = trapEntry r s) ∨ t.privilegedPart = s.privilegedPart := by
  by_cases priv : IsPrivileged i
  · obtain ⟨e, run⟩ := exec_of_isPrivileged priv s
    rw [run, privileged_of_user user] at h
    exact .inl ⟨_, raised_eq h⟩
  cases exec_effect h with
  | registers _ writes =>
    generalize destG i = g, destB i = b at writes
    cases writes <;> exact .inr rfl
  | trap r => exact .inl ⟨r, rfl⟩
  | load _ _ result => exact (loadOp_access result).user user
  | dismissible _ _ result => exact (disLoadOp_access result).user user
  | store _ _ result => exact (storeOp_access result).user user
  | caches _ _ _ _ settled => obtain rfl | rfl := settled <;> exact .inr rfl
  | psw _ _ unit => exact absurd (isPrivileged_of_kind unit) priv
  | rfi => exact absurd (.inl rfl) priv
  | extension | fallThrough | jump | call | idle => exact .inr rfl

/-! ## The end of a step in user mode -/

/-- The end of a step changes no privileged state but by ticking out the older contents of saved registers. -/
theorem settleBundle_privilegedPart (s : State) (e : Ending) (t : State) :
    (settleBundle s e t).privilegedPart = t.privilegedPart := by
  obtain ⟨is, -, ⟨-, e⟩ | ⟨-, e⟩⟩ | ⟨-, e⟩ | ⟨ws, -, e⟩ := settleBundle_cases s e t <;> rw [e]
  · obtain ⟨xs, er⟩ := refetch_changes s is (tickHazards t)
    rw [er]
    rfl
  · rfl
  · rfl

theorem finish_privilegedPart (s : State) (e : BundleEnd) : (finish s e).privilegedPart = e.state.privilegedPart := by
  obtain ⟨c, hc⟩ := countEvents_changes s e.ending e.state
  have counted : (countEvents s e.ending e.state).privilegedPart = e.state.privilegedPart := by
    rw [hc]
    rfl
  exact (settleBundle_privilegedPart s e.ending (countEvents s e.ending e.state)).trans counted

/-- A bundle that commits in user mode leaves privileged state alone. -/
theorem commitAll_user {s : State} (user : s.psw.getLsbD 0 = true) {pc : Word} {is : List Instr}
    {rs : List (Instr × State)} (results : runOps s (operations pc is) = .next rs)
    (done : ∀ x ∈ rs, x.2.signal = .done) : (commitAll s rs).privilegedPart = s.privilegedPart := by
  obtain ⟨g, b, v, p, e⟩ := foldl_copyDests_changes rs (commitBase s rs)
  have base : (commitBase s rs).privilegedPart = s.privilegedPart := by
    obtain eb | ⟨x, hx, eb⟩ := commitBase_mem s rs <;> rw [eb]
    obtain ⟨o, ho, -, result⟩ := (mem_runOps results x).1 hx
    obtain ⟨y, run⟩ := runOp_of_operations ho s
    obtain ⟨r, raised⟩ | same := exec_user (s := { s with ext := y }) user (run.symm.trans result)
    · have signal := done x hx
      rw [raised] at signal
      cases signal
    · exact same
  unfold commitAll
  rw [e]
  exact base

/-- What a trap or a debug interrupt leaves of the mode: supervisor mode, the saved pair and the handler's address. -/
structure LeftUserMode (s t : State) : Prop where
  mode : t.psw.getLsbD 0 = false
  savedPsw : t.savedPsw.value = s.psw
  savedPc : t.savedPc.value = s.pc
  handler : t.pc = s.handlerPc &&& 0xFFFFFFFC#32 ∨ t.pc = s.cfg.debugHandlerPc &&& 0xFFFFFFFC#32

theorem leftUserMode_of_stopped {s n u : State} {e : Ending} (h : (∃ x, e = .trapped x) ∨ e = .debug)
    (mode : u.psw.getLsbD 0 = false) (savedPsw : u.savedPsw.value = s.psw) (savedPc : u.savedPc.value = s.pc)
    (handler : u.nextPc = toPc s.handlerPc ∨ u.nextPc = toPc s.cfg.debugHandlerPc) :
    LeftUserMode s (finish n ⟨e, u⟩) := by
  obtain ⟨c, ended⟩ := finish_of_stopped n u h
  rw [ended]
  exact ⟨mode, savedPsw, savedPc, handler⟩

theorem trapPsw_getLsbD (psw : Word) : (trapPsw psw).getLsbD 0 = false ∧ (trapPsw psw).getLsbD 12 = psw.getLsbD 12 := by
  simp [trapPsw]

theorem debugPsw_getLsbD (psw : Word) : (debugPsw psw).getLsbD 0 = false := by
  simp [debugPsw]

theorem leftUserMode_trap {s m : State} (n : State) (r : Raise) (psw : m.psw = s.psw) (pc : m.pc = s.pc)
    (handler : m.handlerPc = s.handlerPc) : LeftUserMode s (finish n (trapEnd r m)) :=
  leftUserMode_of_stopped (.inl ⟨_, rfl⟩) (trapPsw_getLsbD m.psw).1 psw pc (.inl (congrArg toPc handler))

/-- A turn of the core that began in user mode. -/
theorem TurnEnd.user {n t : State} (h : TurnEnd n t) (done : n.signal = .done) (user : n.psw.getLsbD 0 = true) :
    LeftUserMode n t ∨ t.privilegedPart = n.privilegedPart := by
  cases h with
  | debug => exact .inl (leftUserMode_of_stopped (.inr rfl) (debugPsw_getLsbD n.psw) rfl rfl (.inr rfl))
  | trap r xs => exact .inl (leftUserMode_trap n r rfl rfl rfl)
  | @evaluated ws e result =>
    rw [finish_privilegedPart]
    cases evalWords_ends done result with
    | illegal x => exact .inl (leftUserMode_trap n _ rfl rfl rfl)
    | trapped r => exact .inl (leftUserMode_trap n r rfl rfl rfl)
    | waiting i left ext => exact .inr (waitingOn_privilegedPart i left _)
    | committed _ results completed =>
      exact .inr (commitAll_user (s := n.withNextPc ws.length) user results completed)

/-! ## Debug mode -/

/-- No write of the PSW sets DEBUG_MODE (46_system.md R493). -/
theorem pswWrite_debug {old : Word} (h : old.getLsbD 12 = false) (new : Word) : (pswWrite old new).getLsbD 12 = false := by
  have clear : (pswWritable &&& ~~~0x00001000#32).getLsbD 12 = false := by decide
  rw [pswWrite, if_neg (Bool.eq_false_iff.1 h), BitVec.and_assoc, BitVec.getLsbD_and, clear, Bool.and_false]

theorem Access.psw {s t : State} (h : Access s t) : t.psw = s.psw ∨ t.psw = trapPsw s.psw := by
  cases h with
  | raises r => exact .inr rfl
  | readsRegister r =>
    obtain ⟨x, e⟩ := cregReadEffect_changes s r
    rw [e]
    exact .inl rfl
  | writesRegister r v => exact .inl (cregUpdate_psw s r v)
  | waits | takes | puts | reads | writes => exact .inl rfl

/-- No operation enters debug mode. -/
theorem exec_debug {i : Instr} {s t : State} (off : s.psw.getLsbD 12 = false) (h : exec i s = .next t) :
    t.psw.getLsbD 12 = false := by
  have access : ∀ {u : State}, Access s u → u.psw.getLsbD 12 = false := fun hu => by
    obtain e | e := hu.psw <;> rw [e]
    · exact off
    · exact (trapPsw_getLsbD s.psw).2.trans off
  cases exec_effect h with
  | registers _ writes =>
    generalize destG i = g, destB i = b at writes
    cases writes <;> exact off
  | trap r => exact (trapPsw_getLsbD s.psw).2.trans off
  | load _ _ result => exact access (loadOp_access result)
  | dismissible _ _ result => exact access (disLoadOp_access result)
  | store _ _ result => exact access (storeOp_access result)
  | psw => exact pswWrite_debug off _
  | rfi => exact pswWrite_debug off _
  | caches | extension | fallThrough | jump | call | idle => exact off

theorem evalWords_debug {s : State} {ws : List Word} {e : BundleEnd} (off : s.psw.getLsbD 12 = false)
    (h : evalWords s ws = .next e) : e.state.psw.getLsbD 12 = false := by
  obtain ⟨r, rfl⟩ | ⟨is, rs, results, rfl⟩ := evalWords_cases h
  · exact (trapPsw_getLsbD s.psw).2.trans off
  have result : ∀ x ∈ rs, x.2.psw.getLsbD 12 = false := fun x hx => by
    obtain ⟨o, ho, -, run⟩ := (mem_runOps results x).1 hx
    obtain ⟨y, hy⟩ := runOp_of_operations ho (s.withNextPc ws.length)
    exact exec_debug (s := { s.withNextPc ws.length with ext := y }) off (hy.symm.trans run)
  obtain ⟨x, hx, e⟩ | e := outcomeOf_cases (s.withNextPc ws.length) ws is rs <;> rw [e]
  · exact result x hx
  · obtain ⟨g, b, v, p, copied⟩ := foldl_copyDests_changes rs (commitBase (s.withNextPc ws.length) rs)
    unfold commitAll
    rw [copied]
    obtain eb | ⟨x, hx, eb⟩ := commitBase_mem (s.withNextPc ws.length) rs
    · exact (congrArg (fun u : State => u.psw.getLsbD 12) eb).trans off
    · exact (congrArg (fun u : State => u.psw.getLsbD 12) eb).trans (result x hx)

/-- A turn that ends in debug mode took a debug interrupt (10_state.md R48, 60_exceptions.md R562). -/
theorem TurnEnd.entersDebug {n t : State} (h : TurnEnd n t) (off : n.psw.getLsbD 12 = false)
    (on : t.psw.getLsbD 12 = true) : debugPending n = true ∧ t.pc = n.cfg.debugHandlerPc &&& 0xFFFFFFFC#32 := by
  have kept : ∀ e : BundleEnd, (finish n e).psw = e.state.psw := fun e => by
    obtain ⟨_, _, _, _, _, _, _, ended⟩ := finish_changes n e
    rw [ended]
  cases h with
  | debug due =>
    obtain ⟨c, ended⟩ := finish_of_stopped n (debugEntry n) (.inr rfl)
    rw [ended]
    exact ⟨due, rfl⟩
  | trap r xs =>
    rw [kept] at on
    cases ((trapPsw_getLsbD n.psw).2.trans off).symm.trans on
  | evaluated result =>
    rw [kept] at on
    cases (evalWords_debug off result).symm.trans on

/-- Settles O56: a turn of the core in user mode takes an exception or a debug interrupt, or leaves privileged state alone,
whatever operations it evaluates; none of these sets DEBUG_MODE. -/
theorem userModeCannotChangePrivilegedState : Obligations.UserModeCannotChangePrivilegedState := by
  refine ⟨fun s t rest user ht => ?_, fun s t _ off ht on => ?_⟩
  · obtain rfl | turn := coreStep_ends ht
    · exact ⟨fun _ => samePrivilegedState_of_eq (s := s) rfl, fun super => by cases super.symm.trans user⟩
    obtain ⟨h, begins⟩ := begun_changes s
    rw [begins] at turn
    obtain left | same := turn.user rest.signal user
    · exact ⟨fun stays => absurd stays (Bool.eq_false_iff.1 left.mode), fun _ => ⟨left.savedPsw, left.savedPc, left.handler⟩⟩
    · exact ⟨fun _ => samePrivilegedState_of_eq same, fun super => by
        cases super.symm.trans ((congrArg (fun u : State => u.psw.getLsbD 0) same).trans user)⟩
  · obtain rfl | turn := coreStep_ends ht
    · cases off.symm.trans on
    rw [← debugPending_begun]
    obtain ⟨h, begins⟩ := begun_changes s
    rw [begins] at turn ⊢
    exact turn.entersDebug off on

end Sys2Proof.Machine
end

section
/-! PROOF. Exceptions, the debug interrupt and interrupts: which of them is taken, what taking it leaves, and which events
wake an idle core (60_exceptions.md R513 to R541, 61_platform_devices.md R691). -/

namespace Sys2Proof.Machine

open Sys2Proof.Rules

/-! ## What is due at a boundary -/

theorem mem_asyncRaises {s : State} {r : Raise} : r ∈ asyncRaises s ↔
    (r = .plain .stbusDcError ∧ s.busErrorPending = true) ∨
    (r = .plain .externInt ∧ s.irq = true ∧ s.psw.getLsbD 1 = true) := by
  simp [asyncRaises, interruptPending, State.intEnable, and_comm]

theorem mem_fetchRaises {s : State} {f : Fetched} {r : Raise} : r ∈ fetchRaises s f ↔
    (r = .plain .ibreak ∧ isIBreakHit s = true) ∨ f.error = some r := by
  simp only [fetchRaises, List.mem_append, List.mem_ite_nil_right, List.mem_singleton, Option.mem_toList,
    and_comm]

/-- The fetch of a syllable fails in translation or on the bus (60_exceptions.md R522, R526). -/
theorem fetchSyllable_error {s : State} {va : Word} {r : Raise} (h : fetchSyllable s va = .error r) :
    r = .plain .stbusIcError ∨ r = raiseFetch s va := by
  have translated : ∀ e, translateFetch s va = .error e → e = raiseFetch s va := by
    intro e he
    unfold translateFetch at he
    split at he
    · cases he
    · cases he; rfl
    · cases he; rfl
    · split at he <;> cases he
      rfl
  unfold fetchSyllable at h
  split at h
  · cases h
    exact .inr (translated _ ‹_›)
  · split at h <;> cases h
    exact .inl rfl

theorem fetchError_cases {s : State} {r : Raise} (h : (fetchBundle s).error = some r) :
    r = .plain .stbusIcError ∨ ∃ va, r = raiseFetch s va := by
  obtain ⟨-, failed, -⟩ := fetchFrom_error_iff.1 h
  exact (fetchSyllable_error failed).imp_right fun e => ⟨_, e⟩

/-- What is due at the boundary or raised by the fetch, in the model's lists. -/
theorem boundaryRaises_iff {s : State} {x : Exc} :
    BoundaryRaises s x ↔ ∃ r ∈ asyncRaises s ++ fetchRaises s (fetchBundle s), r.exc = x := by
  simp only [BoundaryRaises, List.mem_append, mem_asyncRaises, mem_fetchRaises]
  constructor
  · rintro (⟨rfl, pending⟩ | ⟨rfl, requested, enabled⟩ | ⟨rfl, hit⟩ | ⟨r, failed, rfl⟩)
    · exact ⟨_, .inl (.inl ⟨rfl, pending⟩), rfl⟩
    · exact ⟨_, .inl (.inr ⟨rfl, requested, enabled⟩), rfl⟩
    · exact ⟨_, .inr (.inl ⟨rfl, hit⟩), rfl⟩
    · exact ⟨r, .inr (.inr failed), rfl⟩
  · rintro ⟨r, (⟨rfl, pending⟩ | ⟨rfl, requested, enabled⟩) | ⟨rfl, hit⟩ | failed, rfl⟩
    · exact .inl ⟨rfl, pending⟩
    · exact .inr (.inl ⟨rfl, requested, enabled⟩)
    · exact .inr (.inr (.inl ⟨rfl, hit⟩))
    · exact .inr (.inr (.inr ⟨r, failed, rfl⟩))

/-! ## Priority (60_exceptions.md R520) -/

theorem pickRaise_eq_none {rs : List Raise} : pickRaise rs = none ↔ rs = [] := by
  cases rs with
  | nil => simp [pickRaise]
  | cons r rs =>
    simp only [pickRaise, reduceCtorEq, iff_false]
    split
    · simp
    · split <;> simp

/-- The exception taken is one that is due, and none that is due has a higher priority. -/
theorem pickRaise_eq_some {rs : List Raise} {r : Raise} (h : pickRaise rs = some r) :
    r ∈ rs ∧ ∀ q ∈ rs, r.exc.number ≤ q.exc.number := by
  induction rs generalizing r with
  | nil => cases h
  | cons q rs ih =>
    rw [pickRaise] at h
    split at h
    · rename_i empty
      cases h
      simp [pickRaise_eq_none.1 empty]
    · rename_i p rest
      obtain ⟨mem, least⟩ := ih rest
      split at h <;> cases h
      · exact ⟨.tail _ mem, List.forall_mem_cons.2 ⟨by omega, least⟩⟩
      · exact ⟨.head _, List.forall_mem_cons.2 ⟨Nat.le_refl _, fun x hx => by have := least x hx; omega⟩⟩

/-- An exception that goes before every other that is due is the one taken. -/
theorem pickRaise_of_first {rs : List Raise} {r : Raise} (mem : r ∈ rs)
    (first : ∀ q ∈ rs, q = r ∨ r.exc.number < q.exc.number) : pickRaise rs = some r := by
  cases picked : pickRaise rs with
  | none => simp [pickRaise_eq_none.1 picked] at mem
  | some q =>
    obtain ⟨hq, least⟩ := pickRaise_eq_some picked
    have := least r mem
    obtain rfl | lower := first q hq
    · rfl
    · omega

/-- Settles O49: the model takes the lowest number, first of what is due at the boundary or raised by the fetch, else of what
the operations raise. -/
theorem highestPriorityExceptionIsTaken : Obligations.HighestPriorityExceptionIsTaken := by
  refine fun s _ => ⟨fun ⟨x, due⟩ => ?_, fun none ⟨x, is, o, t, legal, member, result, raised⟩ => ?_⟩
  · obtain ⟨q, hq, -⟩ := boundaryRaises_iff.1 due
    cases picked : pickRaise (asyncRaises s ++ fetchRaises s (fetchBundle s)) with
    | none => simp [pickRaise_eq_none.1 picked] at hq
    | some r =>
      obtain ⟨mem, least⟩ := pickRaise_eq_some picked
      refine ⟨r.exc, _, evalBundle_of_pick picked, boundaryRaises_iff.2 ⟨r, mem, rfl⟩, fun y hy => ?_⟩
      obtain ⟨p, hp, rfl⟩ := boundaryRaises_iff.1 hy
      exact least p hp
  · have quiet : asyncRaises s ++ fetchRaises s (fetchBundle s) = [] :=
      List.eq_nil_iff_forall_not_mem.2 fun r hr => none ⟨r.exc, boundaryRaises_iff.2 ⟨r, hr, rfl⟩⟩
    obtain ⟨rs, results⟩ := runOps_next (s.withNextPc (fetchBundle s).words.length) (operations s.pc is)
    have run : evalBundle (asyncRaises s) s = .next
        (outcomeOf (s.withNextPc (fetchBundle s).words.length) (fetchBundle s).words is rs) := by
      simp only [evalBundle, quiet, pickRaise, evalWords, legal, results]
    have among : ∀ o ∈ operations s.pc is, ∀ u, runOp (s.withNextPc (fetchBundle s).words.length) o = .next u →
        u ∈ rs.map Prod.snd := fun o ho u hu =>
      List.mem_map.2 ⟨(o.1, u), (mem_runOps results _).2 ⟨o, ho, rfl, hu⟩, rfl⟩
    cases picked : pickTrap (rs.map Prod.snd) with
    | none => exact absurd raised (not_raised_of_pickTrap picked t (among o member t result) x)
    | some q =>
      obtain ⟨signal, least⟩ := pickTrap_eq_some picked
      obtain ⟨y, hy, same⟩ := List.mem_map.1 (pickTrap_mem picked)
      obtain ⟨p, hp, -, hr⟩ := (mem_runOps results y).1 hy
      refine ⟨q.1, q.2, by rw [run, outcomeOf, picked], ⟨is, p, q.2, legal, hp, same ▸ hr, signal⟩, ?_⟩
      rintro z ⟨js, j, u, legal', member', result', raised'⟩
      obtain rfl : is = js := Option.some.inj (legal.symm.trans legal')
      exact least u (among j member' u result') z raised'

/-! ## What a trap leaves -/

/-- The exception records a TLB_EXCAUSE only if it is a TLB exception (21_translation.md R257). -/
def Raise.OfBundle (r : Raise) : Prop := r.tlb ≠ none → r.exc = .itlb ∨ r.exc = .dtlb

/-- The end of a trap taken on a state that differs from `s` in the model's own fields, in what the micro-TLBs may hold and
in the records of stored words (60_exceptions.md R514, R517). -/
theorem trapped_finish_of_raise {s : State} (rest : s.AtRest) {r : Raise} (kind : r.OfBundle) (n : State) (h : TlbHistory)
    (xs : List StaleWord) (p : Word) (x : Option Imm23) :
    Trapped r.exc (exceptAddress r.exc r.value) s (finish n (trapEnd r
      { s with tlb := { s.tlb with history := h }, stale := xs, nextPc := p, ext := x })) := by
  generalize hm : { s with tlb := { s.tlb with history := h }, stale := xs, nextPc := p, ext := x } = m
  have emptied := emptied_finish n (trapEntry r m) (e := .trapped r.exc) (.inl ⟨_, rfl⟩)
  obtain ⟨c, ended⟩ := finish_of_stopped n (trapEntry r m) (e := .trapped r.exc) (.inl ⟨_, rfl⟩)
  have own : { s with ext := none, signal := .done, cregStored := none } = s := by
    rw [← rest.ext, ← rest.signal, ← rest.cregStored]
  have pending : (s.busErrorPending && r.exc != .stbusDcError) =
      if r.exc = .stbusDcError then false else s.busErrorPending := by
    by_cases hx : r.exc = .stbusDcError <;> simp [hx]
  have excause : r.exc ≠ .itlb → r.exc ≠ .dtlb → r.tlb.getD s.tlb.excause = s.tlb.excause := fun hi hd => by
    have : r.tlb = none := Classical.not_not.1 fun some => (kind some).elim hi hd
    rw [this]
    rfl
  unfold trapEnd
  rw [ended] at emptied ⊢
  subst hm
  exact ⟨rfl, rfl, rfl, rfl, rfl, rfl, excause, rfl, pending, own, rfl, emptied⟩

/-- The end of a trap keeps the TLB_EXCAUSE that trap entry wrote. -/
theorem finish_excause (s : State) (e : BundleEnd) : (finish s e).tlb.excause = e.state.tlb.excause := by
  obtain ⟨_, _, _, _, _, _, _, ended⟩ := finish_changes s e
  rw [ended]

/-- An exception of R516 reports its value in EXADDRESS, every other one 0. -/
theorem exceptAddress_eq_zero {x : Exc} (v : Word)
    (h : x ∉ ([.dbreak, .misalignedTrap, .cregNoMapping, .cregAccessViolation, .dtlb, .itlb, .sdiTimeout] : List Exc)) :
    exceptAddress x v = 0#32 := by
  cases x <;> simp at h <;> rfl

/-- What the statement on traps says of the state `t` after the trap `x` of the bundle at PC. -/
def TrapSettled (async : List Raise) (s : State) (x : Exc) (t : State) : Prop :=
  ∃ v, Trapped x v s t ∧ TrapSource async s x v t.tlb.excause ∧
    (x ∉ ([.dbreak, .misalignedTrap, .cregNoMapping, .cregAccessViolation, .dtlb, .itlb, .sdiTimeout] : List Exc) →
      v = 0#32)

theorem trapSettled_of_source {async : List Raise} {s : State} (rest : s.AtRest) {r : Raise} (kind : r.OfBundle)
    (source : TrapSource async s r.exc (exceptAddress r.exc r.value) (r.tlb.getD s.tlb.excause)) (n : State)
    (xs : List StaleWord) (p : Word) (x : Option Imm23) :
    TrapSettled async s r.exc (finish n (trapEnd r { s with stale := xs, nextPc := p, ext := x })) := by
  refine ⟨_, trapped_finish_of_raise rest kind n s.tlb.history xs p x, ?_, exceptAddress_eq_zero r.value⟩
  rw [finish_excause]
  exact source

/-- The source of an exception that is due before the bundle is evaluated. -/
theorem trapSource_of_mem {async : List Raise} {s : State} {r : Raise}
    (known : ∀ q ∈ async, q = .plain .stbusDcError ∨ q = .plain .externInt)
    (mem : r ∈ async ++ fetchRaises s (fetchBundle s)) :
    r.OfBundle ∧ TrapSource async s r.exc (exceptAddress r.exc r.value) (r.tlb.getD s.tlb.excause) := by
  rw [List.mem_append, mem_fetchRaises] at mem
  obtain due | ⟨rfl, hit⟩ | failed := mem
  · obtain rfl | rfl := known r due
    · exact ⟨fun h => absurd rfl h, .asynchronous due⟩
    · exact ⟨fun h => absurd rfl h, .asynchronous due⟩
  · exact ⟨fun h => absurd rfl h, .breakpoint hit⟩
  · have address : exceptAddress r.exc r.value = r.value ∧ r.OfBundle := by
      obtain rfl | ⟨va, rfl⟩ := fetchError_cases failed
      · exact ⟨rfl, fun h => absurd rfl h⟩
      · exact ⟨rfl, fun _ => .inl rfl⟩
    rw [address.1]
    exact ⟨address.2, .fetch failed⟩

/-- Settles O48: the trap is one due before the bundle is evaluated, that of an illegal bundle, or trap entry of one of its
operations, and each is taken on the state before the bundle, the model's own fields apart. -/
theorem trapsDiscardTheBundle : Obligations.TrapsDiscardTheBundle := by
  intro async s u x boundary known result
  have rest := boundary.rest
  change TrapSettled async s x (finish s ⟨.trapped x, u⟩)
  have same : ∀ {r : Raise} {m : State}, trapEnd r m = ⟨.trapped x, u⟩ → r.exc = x := fun h =>
    Ending.trapped.inj (congrArg BundleEnd.ending h)
  unfold evalBundle at result
  split at result
  · rename_i r picked
    obtain ⟨kind, source⟩ := trapSource_of_mem known (pickRaise_eq_some picked).1
    have ended : trapEnd r (dropFailedLine (fetchBundle s) s) = ⟨.trapped x, u⟩ := by injection result
    obtain rfl := same ended
    rw [← ended]
    obtain ⟨_, _, -, -, -, dropped⟩ | dropped := dropFailedLine_cases (fetchBundle s) s <;> rw [dropped]
    · exact trapSettled_of_source rest kind source s _ s.nextPc s.ext
    · exact trapSettled_of_source rest kind source s s.stale s.nextPc s.ext
  · have ends := evalWords_ends rest.signal result
    generalize ended : (⟨.trapped x, u⟩ : BundleEnd) = e at ends
    cases ends with
    | illegal y trap none =>
      obtain rfl := same ended.symm
      have zero : exceptAddress y 0#32 = 0#32 := by obtain rfl | rfl := trap <;> rfl
      have source : TrapSource async s y (exceptAddress y 0#32) s.tlb.excause := zero.symm ▸ .illegal trap none
      exact trapSettled_of_source (r := .plain y) rest (fun h => absurd rfl h) source s s.stale s.nextPc s.ext
    | @trapped is o ext r kind legal member run =>
      obtain rfl := same ended.symm
      exact trapSettled_of_source rest (fun h => .inr (kind h)) (.operation legal member run rfl) s s.stale _ ext
    | waiting => cases congrArg BundleEnd.ending ended
    | committed => cases congrArg BundleEnd.ending ended

/-! ## The debug interrupt -/

/-- The end of debug entry on a state that differs from `s` in the request and in what the micro-TLBs may hold
(60_exceptions.md R540, R541). -/
theorem debugEntered_finish {s : State} (rest : s.AtRest) (n : State) (h : TlbHistory) (b : Bool) :
    DebugEntered s (finish n ⟨.debug, debugEntry
      { s with tlb := { s.tlb with history := h }, dsu := { s.dsu with irqPending := b } }⟩) := by
  generalize hm : { s with tlb := { s.tlb with history := h }, dsu := { s.dsu with irqPending := b } } = m
  have emptied := emptied_finish n (debugEntry m) (.inr rfl)
  obtain ⟨c, ended⟩ := finish_of_stopped n (debugEntry m) (.inr rfl)
  have own : { s with ext := none, signal := .done, cregStored := none } = s := by
    rw [← rest.ext, ← rest.signal, ← rest.cregStored]
  rw [ended] at emptied ⊢
  subst hm
  exact ⟨rfl, rfl, rfl, rfl, rfl, rfl, rfl, rfl, own, rfl, emptied⟩

theorem debugPending_sampleTrigger {s : State} (requested : DebugRequested s) (off : s.psw.getLsbD 12 = false) :
    debugPending (sampleTrigger s) = true := by
  have mode : (sampleTrigger s).debugMode = false := off
  simp [debugPending, (irqPending_sampleTrigger s).2 requested, mode]

/-! ## Turns of the core -/

theorem waiting_begun (s : State) : (begun s).waiting = s.waiting := by
  obtain ⟨h, e⟩ := begun_changes s
  rw [e]
  rfl

/-- A core that is awake or wakes runs the bundle at PC, if none waits. -/
theorem coreStep_of_running {s : State} (wake : s.coreIdle = true → wakes (sampleTrigger s) = true)
    (running : s.waiting = none) : coreStep s = boundaryStep (begun s) := by
  have turn : ((sampleTrigger s).coreIdle && !wakes (sampleTrigger s)) = false := by
    cases idle : s.coreIdle with
    | false => exact congrArg (· && _) idle
    | true => rw [wake idle, Bool.not_true, Bool.and_false]
  have none := (waiting_begun s).trans running
  unfold begun at none ⊢
  simp [coreStep, turn, none]

/-- The turn of a waiting bundle. -/
theorem coreStep_of_stallTurn {s : State} {ws : List Word} {b : BundleEnd} (h : StallTurn s ws b) :
    coreStep s = .next (finish (noteAccesses (sampleTrigger s)) (stallEnd (noteAccesses (sampleTrigger s)) b)) := by
  have awake : (sampleTrigger s).coreIdle = false := h.awake
  have same := begun_of_awake h.awake
  have held := (waiting_begun s).trans h.held
  rw [same] at held
  unfold begun at same
  simp [coreStep, awake, same, held, stalledStep, h.turn]

theorem stallEnd_of_committed {n : State} {b : BundleEnd} (h : ∃ is, b.ending = .committed is) : stallEnd n b = b := by
  obtain ⟨is, h⟩ := h
  simp [stallEnd, Ending.isCommitted, h]

theorem isCommitted_eq_false {e : Ending} (h : ¬∃ is, e = .committed is) : e.isCommitted = false := by
  cases e with
  | committed is => exact absurd ⟨is, rfl⟩ h
  | trapped | debug | waiting => rfl

theorem stallEnd_of_debug {n : State} {b : BundleEnd} (h : ¬∃ is, b.ending = .committed is)
    (due : debugPending n = true) : stallEnd n b = ⟨.debug, debugEntry n⟩ := by
  simp [stallEnd, isCommitted_eq_false h, due]

theorem stallEnd_of_raise {n : State} {b : BundleEnd} (h : ¬∃ is, b.ending = .committed is)
    (quiet : debugPending n = false) {r : Raise} (due : pickRaise (asyncRaises n) = some r) :
    stallEnd n b = trapEnd r n := by
  simp [stallEnd, isCommitted_eq_false h, quiet, due]

theorem stallEnd_of_quiet {n : State} {b : BundleEnd} (quiet : debugPending n = false)
    (none : pickRaise (asyncRaises n) = none) : stallEnd n b = b := by
  simp [stallEnd, quiet, none]

/-- The debug interrupt ends the wait of a bundle. -/
theorem debugEntered_of_stallTurn {s : State} {ws : List Word} {b : BundleEnd} (h : StallTurn s ws b)
    (stuck : ¬∃ is, b.ending = .committed is) (requested : DebugRequested s) (off : s.psw.getLsbD 12 = false) :
    ∃ t, coreStep s = .next t ∧ DebugEntered s t := by
  obtain ⟨x, noted⟩ := noteAccesses_changes (sampleTrigger s)
  have due : debugPending (noteAccesses (sampleTrigger s)) = true := by
    rw [noted]
    exact debugPending_sampleTrigger requested off
  refine ⟨_, coreStep_of_stallTurn h, ?_⟩
  rw [stallEnd_of_debug stuck due, noted]
  exact debugEntered_finish h.rest _ x _

/-- Settles O50: at a boundary, in idle mode and in the turn of a waiting bundle a request comes first. -/
theorem debugInterruptIsTakenFirst : Obligations.DebugInterruptIsTakenFirst := by
  refine ⟨fun s rest running requested off => ?_, fun s ws b turn stuck requested off =>
    debugEntered_of_stallTurn turn stuck requested off⟩
  have due := debugPending_sampleTrigger requested off
  obtain ⟨h, begins⟩ := begun_changes s
  have boundary : boundaryStep (begun s) = .next (finish (begun s) ⟨.debug, debugEntry (begun s)⟩) := by
    simp [boundaryStep, debugPending_begun, due]
  refine ⟨_, (coreStep_of_running (fun _ => by simp [wakes, due]) running).trans boundary, ?_⟩
  rw [begins]
  exact debugEntered_finish (s := { s with coreIdle := false }) { rest with } _ h _

/-! ## Bus errors and interrupts -/

theorem evalBundle_of_asynchronous {n : State} {r : Raise} (mem : r ∈ asyncRaises n)
    (first : ∀ q ∈ asyncRaises n, q = r ∨ r.exc.number < q.exc.number) (late : r.exc.number < Exc.ibreak.number)
    (fetch : ∀ q, (fetchBundle n).error = some q → q.exc ≠ .stbusIcError) :
    evalBundle (asyncRaises n) n = .next (trapEnd r (dropFailedLine (fetchBundle n) n)) := by
  refine evalBundle_of_pick (pickRaise_of_first (List.mem_append_left _ mem) fun q hq => ?_)
  rw [List.mem_append, mem_fetchRaises] at hq
  obtain due | ⟨rfl, -⟩ | failed := hq
  · exact first q due
  · exact .inr late
  · obtain rfl | ⟨va, rfl⟩ := fetchError_cases failed
    · exact absurd rfl (fetch _ failed)
    · exact .inr (late.trans (show Exc.ibreak.number < Exc.itlb.number by decide))

/-- A pending bus error goes before an interrupt (60_exceptions.md R520). -/
theorem busError_first {n : State} (pending : n.busErrorPending = true) : .plain .stbusDcError ∈ asyncRaises n ∧
    ∀ q ∈ asyncRaises n, q = .plain .stbusDcError ∨ (Raise.plain .stbusDcError).exc.number < q.exc.number := by
  refine ⟨mem_asyncRaises.2 (.inl ⟨rfl, pending⟩), fun q hq => ?_⟩
  obtain ⟨rfl, -⟩ | ⟨rfl, -⟩ := mem_asyncRaises.1 hq
  · exact .inl rfl
  · exact .inr (by decide)

/-- Without a pending bus error an interrupt is all that is due. -/
theorem interrupt_first {n : State} (none : n.busErrorPending = false) (requested : n.irq = true)
    (enabled : n.psw.getLsbD 1 = true) : .plain .externInt ∈ asyncRaises n ∧
    ∀ q ∈ asyncRaises n, q = .plain .externInt ∨ (Raise.plain .externInt).exc.number < q.exc.number := by
  refine ⟨mem_asyncRaises.2 (.inr ⟨rfl, requested, enabled⟩), fun q hq => ?_⟩
  obtain ⟨rfl, pending⟩ | ⟨rfl, -⟩ := mem_asyncRaises.1 hq
  · cases none.symm.trans pending
  · exact .inl rfl

/-- An asynchronous exception taken at the boundary leaves what trap entry writes. -/
theorem trapped_at_boundary {s u : State} (rest : s.AtRest) (running : s.waiting = none) (debug : NoDebugDue s)
    (hu : u = { sampleTrigger s with coreIdle := false }) (wake : s.coreIdle = true → wakes (sampleTrigger s) = true)
    {x : Exc} (address : exceptAddress x 0#32 = 0#32)
    (taken : evalBundle (asyncRaises (begun s)) (begun s) =
      .next (trapEnd (.plain x) (dropFailedLine (fetchBundle (begun s)) (begun s)))) :
    ∃ t, coreStep s = .next t ∧ Trapped x 0#32 u t := by
  have quiet : debugPending (begun s) = false := (debugPending_begun s).trans (debugPending_eq_false debug)
  have boundary : boundaryStep (begun s) = .next (finish (begun s)
      (trapEnd (.plain x) (dropFailedLine (fetchBundle (begun s)) (begun s)))) := by
    simp [boundaryStep, quiet, taken]
  refine ⟨_, (coreStep_of_running wake running).trans boundary, ?_⟩
  obtain ⟨h, begins⟩ := begun_changes s
  have resting : u.AtRest := hu ▸ { rest with }
  have settled : ∀ n xs, Trapped x 0#32 u (finish n (trapEnd (.plain x) { begun s with stale := xs })) := by
    intro n xs
    rw [begins]
    subst hu
    exact trapped_finish resting address n h xs
  obtain ⟨_, _, -, -, -, dropped⟩ | dropped := dropFailedLine_cases (fetchBundle (begun s)) (begun s) <;> rw [dropped]
  · exact settled _ _
  · exact settled _ (begun s).stale

/-- Settles O51: what is due goes before all else that the boundary and the fetch bring, a bus error of the fetch apart. -/
theorem busErrorsAndInterruptsAreTakenAtTheBoundary : Obligations.BusErrorsAndInterruptsAreTakenAtTheBoundary := by
  intro s u rest running debug hu fetch
  have same : begun s = noteAccesses u := by rw [hu]; rfl
  rw [← same] at fetch
  obtain ⟨h, begins⟩ := begun_changes s
  refine ⟨fun pending => ?_, fun none requested enabled => ?_⟩
  · have due : (begun s).busErrorPending = true := by rw [begins]; exact pending
    obtain ⟨mem, first⟩ := busError_first due
    have wake : wakes (sampleTrigger s) = true := by
      have : (sampleTrigger s).busErrorPending = true := pending
      simp [wakes, this]
    exact trapped_at_boundary rest running debug hu (fun _ => wake) rfl
      (evalBundle_of_asynchronous mem first (by decide) fetch)
  · have due : (begun s).busErrorPending = false ∧ (begun s).irq = true ∧ (begun s).psw.getLsbD 1 = true := by
      rw [begins]
      exact ⟨none, requested, enabled⟩
    obtain ⟨mem, first⟩ := interrupt_first due.1 due.2.1 due.2.2
    have wake : wakes (sampleTrigger s) = true := by
      have : interruptPending (sampleTrigger s) = true := Bool.and_eq_true_iff.2 ⟨requested, enabled⟩
      simp [wakes, this]
    exact trapped_at_boundary rest running debug hu (fun _ => wake) rfl
      (evalBundle_of_asynchronous mem first (by decide) fetch)

/-! ## Idle mode -/

theorem sampleTrigger_of_requested {s : State} (h : DebugRequested s) :
    sampleTrigger s = { s with dsu := { s.dsu with irqPending := true } } := by
  have := (irqPending_sampleTrigger s).2 h
  unfold sampleTrigger at this ⊢
  dsimp only at this
  rw [this]

theorem sampleTrigger_of_not_requested {s : State} (h : ¬DebugRequested s) : sampleTrigger s = s := by
  have kept : (sampleTrigger s).dsu.irqPending = s.dsu.irqPending := by
    have low := Bool.eq_false_iff.2 fun on => h ((irqPending_sampleTrigger s).1 on)
    have none : s.dsu.irqPending = false := Bool.eq_false_iff.2 fun on => h (.inl on)
    rw [low, none]
  unfold sampleTrigger at kept ⊢
  dsimp only at kept
  rw [kept]

/-- Settles O38: with nothing due the idle core's step samples the trigger and no more. -/
theorem idleCoreWaitsForAWakeEvent : Obligations.IdleCoreWaitsForAWakeEvent := by
  refine fun s idle => ⟨fun debug none interrupt => ?_, fun i v => ?_⟩
  · have asleep : wakes (sampleTrigger s) = false := by
      have bus : (sampleTrigger s).busErrorPending = false := none
      have masked : interruptPending (sampleTrigger s) = false := Bool.and_eq_false_iff.2 interrupt
      simp [wakes, debugPending_eq_false debug, bus, masked]
    have resting : (sampleTrigger s).coreIdle = true := idle
    have stays : coreStep s = .next (sampleTrigger s) := by simp [coreStep, resting, asleep]
    exact ⟨fun calm => by rw [stays, sampleTrigger_of_not_requested calm],
      fun requested => by rw [stays, sampleTrigger_of_requested requested]⟩
  · simp [applyEvent, sdiPush, idle]

end Sys2Proof.Machine
end

section
/-! PROOF. SDI ports: what accesses of DATA and READY do, and the turns of a bundle that waits on a port
(61_platform_devices.md R622 to R628). -/

namespace Sys2Proof.Machine

open Sys2Proof.Rules

/-! ## Accesses of a port -/

theorem lookup_sdiData (i : Fin 4) : cregTable.lookup (0xE000 + 0x400 * i.val) = some (.sdiData i) := by
  revert i; decide

/-- The port's DATA and READY are open to whom the access allows (61_platform_devices.md R630). -/
theorem accessCode_of_allowed {s : State} {i : Fin 4} (allowed : s.psw.getLsbD 0 = false ∨ s.sdi[i].priv = 1#2) {r : CReg}
    (port : r = .sdiData i ∨ r = .sdiReady i) : accessCode s r ≠ .na := by
  unfold accessCode State.userMode
  obtain super | priv := allowed
  · rw [super]
    obtain rfl | rfl := port <;> simp [supervisorAccess]
  · have opened : sdiUserOpen s i = true := beq_iff_eq.2 priv
    split <;> obtain rfl | rfl := port <;> simp [userAccess, opened, supervisorAccess]

section
variable {off : Nat} {s : State} {i : Fin 4} {a : Word}

theorem toNat_of_sdiAccess (h : SdiAccess off s i a) : a.toNat = 0xFFFF0000 + (0xE000 + 0x400 * i.val + off) := by
  have := h.address
  omega

theorem space_of_sdiAccess (h : SdiAccess off s i a) : InCRegSpace a := by
  have := h.address
  unfold InCRegSpace
  omega

theorem cregCheck_of_sdiAccess (h : SdiAccess off s i a) {r : CReg} (hr : cregTable.lookup (0xE000 + 0x400 * i.val + off) = some r)
    (port : r = .sdiData i ∨ r = .sdiReady i) : cregCheck s a = .ok r := by
  unfold cregCheck
  rw [cregAt_of_toNat (toNat_of_sdiAccess h), hr]
  exact if_neg (accessCode_of_allowed h.allowed port)

theorem inReset_of_sdiAccess (h : SdiAccess off s i a) : s.sdi[i].inReset = false := by
  unfold SdiPort.inReset
  rw [h.running.1, h.running.2]
  rfl

end

section
variable {s : State} {i : Fin 4} {x a : GReg} {k : Imm9}

/-- A word load of DATA is the port's load. -/
theorem exec_ldw_sdiData (h : SdiAccess 0 s i (s.imm k + s.r a)) : exec (.ldw x a k) s = sdiDataLoad i x s := by
  change loadOp .word id x a k s = _
  rw [loadOp_of_cregSpace h.noBreak (space_of_sdiAccess h), if_pos rfl, cregLoad, cregCheck_of_sdiAccess h (lookup_sdiData i) (.inl rfl)]

/-- A word store to DATA is the port's store. -/
theorem exec_stw_sdiData (h : SdiAccess 0 s i (s.imm k + s.r a)) : exec (.stw x a k) s = sdiDataStore i (s.r x) s := by
  change storeOp .word x a k s = _
  rw [storeOp_of_cregSpace h.noBreak (space_of_sdiAccess h), if_pos rfl, cregStore, cregCheck_of_sdiAccess h (lookup_sdiData i) (.inl rfl)]

theorem exec_ldw_sdiReady (h : SdiAccess 8 s i (s.imm k + s.r a)) :
    exec (.ldw x a k) s = .next (s.writeR x (sdiReadyValue s i)) := by
  have row : cregTable.lookup (0xE000 + 0x400 * i.val + 8) = some (.sdiReady i) := by
    rw [Nat.add_right_comm]; exact (lookup_sdi i).1
  change loadOp .word id x a k s = _
  rw [loadOp_of_cregSpace h.noBreak (space_of_sdiAccess h), if_pos rfl, cregLoad, cregCheck_of_sdiAccess h row (.inr rfl)]
  rfl

theorem exec_stw_sdiReady (h : SdiAccess 8 s i (s.imm k + s.r a)) :
    exec (.stw x a k) s = .next { s with cregStored := some (.sdiReady i) } := by
  have row : cregTable.lookup (0xE000 + 0x400 * i.val + 8) = some (.sdiReady i) := by
    rw [Nat.add_right_comm]; exact (lookup_sdi i).1
  change storeOp .word x a k s = _
  rw [storeOp_of_cregSpace h.noBreak (space_of_sdiAccess h), if_pos rfl, cregStore, cregCheck_of_sdiAccess h row (.inr rfl)]
  rfl

/-- A load of DATA takes the head item. -/
theorem exec_ldw_sdiData_cons (h : SdiAccess 0 s i (s.imm k + s.r a)) (input : s.cfg.sdi[i].isInput = true) {v : Word}
    {rest : List Word} (items : s.sdi[i].chan = v :: rest) :
    exec (.ldw x a k) s = .next ((sdiAfter s i rest).writeR x v) := by
  simp only [exec_ldw_sdiData h, sdiDataLoad, inReset_of_sdiAccess h, input, items, if_true, Bool.false_eq_true, if_false]
  rfl

/-- A store to DATA appends its source while there is room. -/
theorem exec_stw_sdiData_room (h : SdiAccess 0 s i (s.imm k + s.r a)) (output : s.cfg.sdi[i].isInput = false)
    (room : s.sdi[i].chan.length < s.cfg.sdi[i].depth) :
    exec (.stw x a k) s = .next (sdiAfter s i (s.sdi[i].chan ++ [s.r x])) := by
  have notFull : ¬s.cfg.sdi[i].depth ≤ s.sdi[i].chan.length := Nat.not_le.2 room
  simp only [exec_stw_sdiData h, sdiDataStore, inReset_of_sdiAccess h, output, notFull, decide_false, Bool.false_eq_true, if_false]
  rfl

end

/-- Settles O26: DATA and READY of a port that runs, by the kind of the port and what its channel holds. -/
theorem sdiDataMovesItems : Obligations.SdiDataMovesItems := by
  refine ⟨fun i d a k s h => ⟨fun output => ?_, fun v rest input items => exec_ldw_sdiData_cons h input items⟩,
    fun i b a k s h => ⟨fun input => ?_, fun output room => exec_stw_sdiData_room h output room⟩,
    fun i x a k s h => ⟨⟨min (Config.freeSdiReady s.free i.val) (s.sdi[i].available s.cfg.sdi[i]), ?_, ?_⟩,
      exec_stw_sdiReady h⟩⟩
  · simp only [exec_ldw_sdiData h, sdiDataLoad, inReset_of_sdiAccess h, output, Bool.false_eq_true, if_false]
  · simp only [exec_stw_sdiData h, sdiDataStore, inReset_of_sdiAccess h, input, Bool.false_eq_true, if_false, if_true]
  · exact Nat.min_le_right _ _
  · simp only [exec_ldw_sdiReady h, sdiReadyValue, inReset_of_sdiAccess h, Bool.false_eq_true, if_false]

/-! ## Waiting -/

/-- One turn of the stall loop (61_platform_devices.md R627, R628). -/
theorem sdiBlocked_sdiStall (s : State) (i : Fin 4) : sdiBlocked s i (sdiStall i s) := by
  obtain ⟨t, ht⟩ := sdiStall_next i s
  refine ⟨t, ht, fun enabled atZero => ?_, fun waits => ?_⟩ <;>
    obtain ⟨disabled, rfl⟩ | ⟨on, zero, rfl⟩ | ⟨on, left, rfl⟩ := sdiStall_cases ht
  · cases enabled.symm.trans disabled
  · exact raisesPlain_trapEntry rfl s
  · exact absurd atZero left
  · have same : s.sdi.set i s.sdi[i] = s.sdi := Vector.set_getElem_self _
    rw [sdiWaits, disabled, if_pos rfl, BitVec.sub_zero, same]
  · obtain disabled | left := waits
    · cases on.symm.trans disabled
    · exact absurd zero left
  · rw [sdiWaits, on]
    rfl

/-- A bundle whose turn does not commit it ends in a debug interrupt, in an exception that is due, or as it came. -/
theorem waiting_of_stallTurn {s t : State} {ws : List Word} {b : BundleEnd} (h : StallTurn s ws b)
    (ht : coreStep s = .next t) : t.waiting = none ∨ (t.waiting = some ws ∧ t.pc = s.pc) := by
  obtain ⟨x, noted⟩ := noteAccesses_changes (sampleTrigger s)
  have turn := h.turn
  obtain rfl := next_inj ((coreStep_of_stallTurn h).symm.trans ht)
  rw [noted] at turn ⊢
  generalize hn : { sampleTrigger s with tlb := { (sampleTrigger s).tlb with history := x } } = n at turn ⊢
  have signal : n.signal = .done := by rw [← hn]; exact h.rest.signal
  have pc : n.pc = s.pc := by rw [← hn]; rfl
  have ends : ∀ e : BundleEnd, (finish n e).waiting = e.ending.waits ∧ (finish n e).pc = e.state.nextPc := fun e => by
    obtain ⟨_, _, _, _, _, _, _, ended⟩ := finish_changes n e
    rw [ended]
    exact ⟨rfl, rfl⟩
  rw [(ends _).1, (ends _).2]
  obtain e | e | ⟨r, e⟩ := stallEnd_cases n b <;> rw [e]
  · cases evalWords_ends signal turn with
    | waiting => exact .inr ⟨rfl, pc⟩
    | illegal | trapped | committed => exact .inl rfl
  · exact .inl rfl
  · exact .inl rfl

/-- The state a held bundle of one operation is evaluated on in its next turn. -/
def turnState (s : State) : State :=
  { noteAccesses (sampleTrigger s) with nextPc := (noteAccesses (sampleTrigger s)).pc + 4#32 }

theorem turnState_eq (s : State) : ∃ y, turnState s =
    { sampleTrigger s with tlb := { s.tlb with history := y }, nextPc := s.pc + 4#32 } := by
  obtain ⟨y, noted⟩ := noteAccesses_changes (sampleTrigger s)
  refine ⟨y, ?_⟩
  unfold turnState
  rw [noted]
  rfl

theorem sdiAccess_turnState {s : State} {i : Fin 4} {k : Imm9} {a : GReg} (h : SdiAccess 0 s i (s.imm k + s.r a)) :
    SdiAccess 0 (turnState s) i ((turnState s).imm k + (turnState s).r a) := by
  obtain ⟨y, eq⟩ := turnState_eq s
  rw [eq]
  exact ⟨h.noBreak, h.address, h.allowed, h.running⟩

/-- A held operation that completes in its turn commits. -/
theorem stallTurn_completes {s t : State} {w : Word} {b : BundleEnd} {j : Instr} (turn : StallTurn s [w] b)
    (stop : w.getLsbD 31 = true) (decodes : decodeSyllable w = .ok j) (formed : j.wellFormed = true)
    (unit : kindOf j = .memory) (run : exec j (turnState s) = .next t) (done : t.signal = .done) :
    ∃ u, coreStep s = .next u ∧ u.waiting = none ∧ u.pc = t.nextPc ∧ u.sdi = t.sdi ∧ u.gpr = t.gpr := by
  have ext : isExtension j = false := by simp [isExtension, unit]
  have legal : Legal (noteAccesses (sampleTrigger s)).pc [w] [j] :=
    legal_singleton stop decodes formed ext fun h => by cases unit.symm.trans h
  obtain rfl : ⟨.committed [j], t⟩ = b := by
    have held : endOf j w t = b := by
      have := turn.turn
      rw [evalWords_singleton legal ext run] at this
      injection this
    rwa [endOf, done] at held
  refine ⟨_, coreStep_of_stallTurn turn, ?_⟩
  rw [stallEnd_of_committed ⟨[j], rfl⟩]
  obtain ⟨_, _, _, _, _, _, _, ended⟩ := finish_changes (noteAccesses (sampleTrigger s)) ⟨.committed [j], t⟩
  rw [ended]
  exact ⟨rfl, rfl, rfl, rfl⟩

/-- Noting the accesses and sampling the trigger leave the asynchronous exceptions that are due. -/
theorem asyncRaises_of_turn (s : State) : asyncRaises (noteAccesses (sampleTrigger s)) = asyncRaises s := by
  obtain ⟨x, noted⟩ := noteAccesses_changes (sampleTrigger s)
  rw [noted]
  rfl

/-- The exception that ends a wait, taken on the state before the turn. -/
theorem trapped_of_stallTurn {s : State} {ws : List Word} {b : BundleEnd} (h : StallTurn s ws b)
    (stuck : ¬∃ is, b.ending = .committed is) (debug : NoDebugDue s) {x : Exc} (address : exceptAddress x 0#32 = 0#32)
    (due : pickRaise (asyncRaises s) = some (.plain x)) :
    ∃ t, coreStep s = .next t ∧ Trapped x 0#32 (sampleTrigger s) t := by
  obtain ⟨y, noted⟩ := noteAccesses_changes (sampleTrigger s)
  have quiet : debugPending (noteAccesses (sampleTrigger s)) = false := by
    rw [noted]
    exact debugPending_eq_false debug
  refine ⟨_, coreStep_of_stallTurn h, ?_⟩
  rw [stallEnd_of_raise stuck quiet ((congrArg pickRaise (asyncRaises_of_turn s)).trans due), noted]
  exact trapped_finish (s := sampleTrigger s) { h.rest with } address _ y _

/-- Settles O27: an access that cannot proceed is one turn of the stall loop; a later turn commits the held bundle, or takes
what is due in the order of the rule, or is one more turn of the loop. -/
theorem sdiAccessesWaitOrTimeOut : Obligations.SdiAccessesWaitOrTimeOut := by
  refine ⟨fun i x a k s h => ⟨fun input empty => ?_, fun output full => ?_⟩, fun s n ws b turn hn => ⟨fun committed => ?_,
    fun stuck => ⟨fun requested off => debugEntered_of_stallTurn turn stuck requested off, fun debug =>
      ⟨fun pending => ?_, fun none requested enabled => ?_, fun none interrupt => ?_⟩⟩, fun t ht =>
    waiting_of_stallTurn turn ht⟩, fun s w b i x a k turn stop access => ⟨fun v rest decodes input items => ?_,
    fun decodes output room => ?_⟩⟩
  · simp only [exec_ldw_sdiData h, sdiDataLoad, inReset_of_sdiAccess h, input, empty, Bool.false_eq_true, if_false, if_true]
    exact sdiBlocked_sdiStall s i
  · simp only [exec_stw_sdiData h, sdiDataStore, inReset_of_sdiAccess h, output, full, decide_true, Bool.false_eq_true, if_false,
      if_true]
    exact sdiBlocked_sdiStall s i
  · rw [coreStep_of_stallTurn turn, stallEnd_of_committed committed, hn]
  · obtain ⟨due, first⟩ := busError_first pending
    exact trapped_of_stallTurn turn stuck debug rfl (pickRaise_of_first due first)
  · obtain ⟨due, first⟩ := interrupt_first none requested enabled
    exact trapped_of_stallTurn turn stuck debug rfl (pickRaise_of_first due first)
  · have quiet : debugPending n = false := by
      obtain ⟨y, noted⟩ := noteAccesses_changes (sampleTrigger s)
      rw [hn, noted]
      exact debugPending_eq_false debug
    have nothing : asyncRaises s = [] := by
      refine List.eq_nil_iff_forall_not_mem.2 fun r hr => ?_
      obtain ⟨-, pending⟩ | ⟨-, requested, enabled⟩ := mem_asyncRaises.1 hr
      · cases none.symm.trans pending
      · obtain off | off := interrupt
        · cases off.symm.trans requested
        · cases off.symm.trans enabled
    subst hn
    rw [coreStep_of_stallTurn turn, stallEnd_of_quiet quiet (pickRaise_eq_none.2 ((asyncRaises_of_turn s).trans nothing))]
  · obtain ⟨y, eq⟩ := turnState_eq s
    have run := exec_ldw_sdiData_cons (x := x) (sdiAccess_turnState access) (by rw [eq]; exact input)
      (by rw [eq]; exact items)
    obtain ⟨u, hu, free, pc, sdi, gpr⟩ :=
      stallTurn_completes turn stop decodes rfl rfl run (by rw [eq]; exact turn.rest.signal)
    rw [eq] at pc sdi gpr
    exact ⟨u, hu, free, pc, sdi, gpr⟩
  · obtain ⟨y, eq⟩ := turnState_eq s
    have run := exec_stw_sdiData_room (x := x) (sdiAccess_turnState access) (by rw [eq]; exact output)
      (by rw [eq]; exact room)
    obtain ⟨u, hu, free, pc, sdi, -⟩ :=
      stallTurn_completes turn stop decodes rfl rfl run (by rw [eq]; exact turn.rest.signal)
    rw [eq] at pc sdi
    exact ⟨u, hu, free, pc, sdi⟩

end Sys2Proof.Machine
end

section
/-! PROOF. The registers of the peripheral block: interrupt controller, timers (61_platform_devices.md R590 to R605) and
DSU (R641 to R645). -/

namespace Sys2Proof.Machine

open Sys2Proof.Rules

/-! ## Words loaded and stored in a window of the block -/

/-- An uncached word load that leads to the interrupt controller block. -/
theorem exec_ldw_of_intc {d a : GReg} {i : Imm9} {s : State} {off : Nat} (passes : ReadPasses s 4 (s.imm i + s.r a))
    (uncached : cachedAccess s (s.imm i + s.r a) = false)
    (window : windowOf s.cfg (translate s (s.imm i + s.r a)) = .intc off) :
    exec (.ldw d a i) s = .next (s.writeR d (intcRead s off)) := by
  have read : busRead s .word (cachedAccess s (s.imm i + s.r a)) (translate s (s.imm i + s.r a)) =
      some (intcRead s off) := by
    simp [busRead, window, uncached]
  rw [exec_ldw_of_passes passes, dataRead_of_peripheral (by simp [window]) read]
  rfl

/-- An uncached word load that leads to the DSU block. -/
theorem exec_ldw_of_dsu {d a : GReg} {i : Imm9} {s : State} {off : Nat} (passes : ReadPasses s 4 (s.imm i + s.r a))
    (uncached : cachedAccess s (s.imm i + s.r a) = false)
    (window : windowOf s.cfg (translate s (s.imm i + s.r a)) = .dsu off) :
    exec (.ldw d a i) s = .next (s.writeR d (dsuRead s off)) := by
  have read : busRead s .word (cachedAccess s (s.imm i + s.r a)) (translate s (s.imm i + s.r a)) =
      some (dsuRead s off) := by
    simp [busRead, window, uncached]
  rw [exec_ldw_of_passes passes, dataRead_of_peripheral (by simp [window]) read]
  rfl

theorem busWrite_of_intc {s : State} {cached : Bool} {pa v : Word} {off : Nat} (window : windowOf s.cfg pa = .intc off) :
    busWrite s .word cached pa v = intcWrite s off v := by
  simp [busWrite, window]

theorem busWrite_of_dsu {s : State} {cached : Bool} {pa v : Word} {off : Nat} (window : windowOf s.cfg pa = .dsu off) :
    busWrite s .word cached pa v = dsuWrite s off v := by
  simp [busWrite, window]

/-- The interrupt controller block has 0x250 bytes (61_platform_devices.md R580). -/
theorem windowOf_intc {c : Cfg} {off : Nat} (h : off < 0x250) :
    windowOf c (c.peripheralBase + c.intcrBase + BitVec.ofNat 32 off) = .intc off := by
  have same : (c.peripheralBase + c.intcrBase + BitVec.ofNat 32 off - (c.peripheralBase + c.intcrBase)).toNat = off := by
    rw [add_sub_cancel_left, BitVec.toNat_ofNat]
    omega
  simp only [windowOf, same, h, if_true]

theorem intcReads_of {off : Nat} {val : State → Word} (inside : off < 0x250) (h : ∀ s, intcRead s off = val s) :
    IntcReads off val := by
  intro d a i s read
  rw [exec_ldw_of_intc read.passes read.uncached (read.address ▸ windowOf_intc inside), h]

theorem intcTakes_of {off : Nat} {upd : Word → State → State} (inside : off < 0x250)
    (h : ∀ v s, intcWrite s off v = upd v s) : IntcTakes off upd := by
  intro b a i s write
  have stored := storeOp_of_passes (w := .word) (b := b) write.passes
  rw [busWrite_of_intc (write.address ▸ windowOf_intc inside), h] at stored
  exact stored

/-! ## The interrupt controller and the timers -/

theorem half64_low (v : BitVec 64) : half64 v 0 = v.setWidth 32 := by
  ext k hk
  simp [half64]

theorem half64_high (v : BitVec 64) : half64 v 1 = (v >>> 32).setWidth 32 := by
  ext k hk
  simp [half64]

theorem inHalf_low (v : Word) : inHalf 0 v = v.setWidth 64 := zero_append v

theorem inHalf_high (v : Word) : inHalf 1 v = v.setWidth 64 <<< 32 := by
  have high : inHalf 1 v = v ++ 0#32 := rfl
  apply BitVec.eq_of_toNat_eq
  rw [high, toNat_append_eq, BitVec.toNat_shiftLeft, BitVec.toNat_setWidth, Nat.shiftLeft_eq, BitVec.toNat_ofNat]
  omega

/-- Lines above three timer lines (61_platform_devices.md R598). -/
theorem line_append (x : BitVec 61) (a b c : Bool) :
    x ++ bit1 c ++ bit1 b ++ bit1 a =
      (x.setWidth 64) <<< 3 ||| BitVec.ofNat 64 (bitNumber a + 2 * bitNumber b + 4 * bitNumber c) := by
  have small : ∀ v : Bool, bitNumber v ≤ 1 := by decide
  have := small a
  have := small b
  have := small c
  apply BitVec.eq_of_toNat_eq
  have shifted : (x.setWidth 64 <<< 3).toNat = x.toNat <<< 3 := by
    rw [BitVec.toNat_shiftLeft, BitVec.toNat_setWidth, Nat.shiftLeft_eq, Nat.shiftLeft_eq]
    omega
  rw [BitVec.toNat_or, shifted, BitVec.toNat_ofNat, Nat.mod_eq_of_lt (by omega), ← Nat.shiftLeft_add_eq_or_of_lt (by omega),
    Nat.shiftLeft_eq]
  simp only [toNat_append_eq, toNat_bit1]
  omega

theorem intPending_eq (s : State) : s.intPending = pendingWord s := by
  unfold State.intPending State.line pendingWord
  rw [line_append]
  rfl

theorem irq_iff (s : State) :
    s.irq = true ↔ pendingWord s &&& s.intc.mask ≠ 0#64 ∨ s.intc.irqMaster = true := by
  rw [← intPending_eq]
  simp [State.irq]

/-- TIMECONTROL as a number (61_platform_devices.md R603). -/
theorem control_eq (t : Timer) :
    t.control = BitVec.ofNat 32 (bitNumber t.enable + 2 * bitNumber t.intEnable + 4 * bitNumber t.status) := by
  apply eq_ofNat_of_toNat
  simp only [Timer.control, toNat_append_eq, toNat_bit1, BitVec.toNat_ofNat]
  omega

/-- The registers of timer `k`. -/
theorem intRegAt_timer (k : Fin 3) : intRegAt (0x200 + 24 * k.val) = .timer k 0 ∧
    intRegAt (0x208 + 24 * k.val) = .timer k 1 ∧ intRegAt (0x210 + 24 * k.val) = .timer k 2 := by
  revert k; decide

theorem intRegAt_other {off : Nat} (h : off ∉ intcOffsets) : intRegAt off = .none := by
  have missing : intRegs.lookup off = none := by
    refine List.lookup_eq_none_iff.2 fun p hp => ?_
    have listed : p.1 ∈ intcOffsets := List.mem_map_of_mem (f := Prod.fst) hp
    exact bne_iff_ne.2 fun (same : off = p.1) => h (same ▸ listed)
  rw [intRegAt, missing]
  rfl

section
variable {s : State} {off : Nat} {v : Word}

theorem intcRead_of_timer {k : Fin 3} {n : Nat} (h : intRegAt off = .timer k n) :
    intcRead s off = s.timers.timer[k].read n := by
  rw [intcRead, h]

theorem intcWrite_of_timer {k : Fin 3} {n : Nat} (h : intRegAt off = .timer k n) :
    intcWrite s off v = withTimer k (fun t => t.write n v) s := by
  rw [intcWrite, h]
  rfl

theorem intcRead_of_none (h : intRegAt off = .none) : intcRead s off = 0#32 := by rw [intcRead, h]

theorem intcWrite_of_none (h : intRegAt off = .none) : intcWrite s off v = s := by rw [intcWrite, h]

end

/-- A store to TIMECONTROL: a 1 in STATUS clears it (61_platform_devices.md R603). -/
theorem setControl_eq (t : Timer) (v : Word) : t.setControl v = { t with
    enable := v.getLsbD 0, intEnable := v.getLsbD 1, status := if v.getLsbD 2 then false else t.status } := by
  unfold Timer.setControl
  cases v.getLsbD 2 <;> simp

/-- What a load of each register of the block gives. -/
theorem intcReads_registers :
    IntcReads 0x00 (fun s => (pendingWord s).setWidth 32) ∧ IntcReads 0x08 (fun s => (pendingWord s >>> 32).setWidth 32) ∧
    IntcReads 0x10 (fun s => s.intc.mask.setWidth 32) ∧ IntcReads 0x18 (fun s => (s.intc.mask >>> 32).setWidth 32) ∧
    IntcReads 0x20 (fun s => s.intc.test.setWidth 32) ∧ IntcReads 0x28 (fun s => (s.intc.test >>> 32).setWidth 32) := by
  refine ⟨?_, ?_, ?_, ?_, ?_, ?_⟩
  · exact intcReads_of (by omega) fun s => (half64_low _).trans (by rw [intPending_eq])
  · exact intcReads_of (by omega) fun s => (half64_high _).trans (by rw [intPending_eq])
  · exact intcReads_of (by omega) fun s => half64_low _
  · exact intcReads_of (by omega) fun s => half64_high _
  · exact intcReads_of (by omega) fun s => half64_low _
  · exact intcReads_of (by omega) fun s => half64_high _

/-- What loads of the three registers of a timer give. -/
theorem intcReads_timer (k : Fin 3) : IntcReads (0x200 + 24 * k.val) (fun s => s.timers.timer[k].const) ∧
    IntcReads (0x208 + 24 * k.val) (fun s => s.timers.timer[k].count) ∧
    IntcReads (0x210 + 24 * k.val) (fun s => BitVec.ofNat 32 (bitNumber s.timers.timer[k].enable +
      2 * bitNumber s.timers.timer[k].intEnable + 4 * bitNumber s.timers.timer[k].status)) := by
  obtain ⟨const, count, control⟩ := intRegAt_timer k
  refine ⟨intcReads_of (by omega) fun s => intcRead_of_timer const, intcReads_of (by omega) fun s => intcRead_of_timer count,
    intcReads_of (by omega) fun s => (intcRead_of_timer control).trans (control_eq _)⟩

/-- What stores to the set and clear registers and to the pair itself do, for INTTEST and INTMASK. -/
theorem intcTakes_test : IntcTakes 0x20 (fun v => withTest (fun m => (m >>> 32).setWidth 32 ++ v)) ∧
    IntcTakes 0x28 (fun v => withTest (fun m => v ++ m.setWidth 32)) ∧
    IntcTakes 0x30 (fun v => withTest (fun m => m &&& ~~~(v.setWidth 64))) ∧
    IntcTakes 0x38 (fun v => withTest (fun m => m &&& ~~~(v.setWidth 64 <<< 32))) ∧
    IntcTakes 0x40 (fun v => withTest (fun m => m ||| v.setWidth 64)) ∧
    IntcTakes 0x48 (fun v => withTest (fun m => m ||| v.setWidth 64 <<< 32)) := by
  refine ⟨?_, ?_, ?_, ?_, ?_, ?_⟩
  · exact intcTakes_of (by omega) fun v s => by rw [withTest, ← half64_high]; rfl
  · exact intcTakes_of (by omega) fun v s => by rw [withTest, ← half64_low]; rfl
  · exact intcTakes_of (by omega) fun v s => by rw [withTest, ← inHalf_low]; rfl
  · exact intcTakes_of (by omega) fun v s => by rw [withTest, ← inHalf_high]; rfl
  · exact intcTakes_of (by omega) fun v s => by rw [withTest, ← inHalf_low]; rfl
  · exact intcTakes_of (by omega) fun v s => by rw [withTest, ← inHalf_high]; rfl

theorem intcTakes_mask : IntcTakes 0x10 (fun v => withMask (fun m => (m >>> 32).setWidth 32 ++ v)) ∧
    IntcTakes 0x18 (fun v => withMask (fun m => v ++ m.setWidth 32)) ∧
    IntcTakes 0x108 (fun v => withMask (fun m => m &&& ~~~(v.setWidth 64))) ∧
    IntcTakes 0x110 (fun v => withMask (fun m => m &&& ~~~(v.setWidth 64 <<< 32))) ∧
    IntcTakes 0x118 (fun v => withMask (fun m => m ||| v.setWidth 64)) ∧
    IntcTakes 0x120 (fun v => withMask (fun m => m ||| v.setWidth 64 <<< 32)) := by
  refine ⟨?_, ?_, ?_, ?_, ?_, ?_⟩
  · exact intcTakes_of (by omega) fun v s => by rw [withMask, ← half64_high]; rfl
  · exact intcTakes_of (by omega) fun v s => by rw [withMask, ← half64_low]; rfl
  · exact intcTakes_of (by omega) fun v s => by rw [withMask, ← inHalf_low]; rfl
  · exact intcTakes_of (by omega) fun v s => by rw [withMask, ← inHalf_high]; rfl
  · exact intcTakes_of (by omega) fun v s => by rw [withMask, ← inHalf_low]; rfl
  · exact intcTakes_of (by omega) fun v s => by rw [withMask, ← inHalf_high]; rfl

/-- What stores to the three registers of a timer do. -/
theorem intcTakes_timer (k : Fin 3) : IntcTakes (0x200 + 24 * k.val) (fun v => withTimer k (fun t => { t with const := v })) ∧
    IntcTakes (0x208 + 24 * k.val) (fun v => withTimer k (fun t => { t with count := v })) ∧
    IntcTakes (0x210 + 24 * k.val) (fun v => withTimer k (fun t => { t with
      enable := v.getLsbD 0, intEnable := v.getLsbD 1, status := if v.getLsbD 2 then false else t.status })) := by
  obtain ⟨const, count, control⟩ := intRegAt_timer k
  refine ⟨intcTakes_of (by omega) fun v s => intcWrite_of_timer const,
    intcTakes_of (by omega) fun v s => intcWrite_of_timer count, intcTakes_of (by omega) fun v s => ?_⟩
  rw [intcWrite_of_timer control, withTimer, withTimer, ← setControl_eq]
  rfl

/-- Settles O28: the map names the register at each offset, halves of pairs as shifts and widths of the pair. -/
theorem interruptControllerAndTimerRegisters : Obligations.InterruptControllerAndTimerRegisters := by
  obtain ⟨pendLow, pendHigh, maskLow, maskHigh, testLow, testHigh⟩ := intcReads_registers
  obtain ⟨setTestLow, setTestHigh, testClrLow, testClrHigh, testSetLow, testSetHigh⟩ := intcTakes_test
  obtain ⟨setMaskLow, setMaskHigh, maskClrLow, maskClrHigh, maskSetLow, maskSetHigh⟩ := intcTakes_mask
  refine ⟨⟨pendLow, pendHigh, maskLow, maskHigh, testLow, testHigh, intcReads_timer, ?_, ?_⟩,
    ⟨?_, ?_, setMaskLow, setMaskHigh, setTestLow, setTestHigh, testClrLow, testClrHigh, testSetLow, testSetHigh,
      maskClrLow, maskClrHigh, maskSetLow, maskSetHigh, intcTakes_timer, ?_⟩, fun off inside other => ?_, irq_iff⟩
  · exact intcReads_of (by omega) fun s => zero_append s.timers.divide
  · intro off listed
    have inside : off < 0x250 ∧ ∀ s, intcRead s off = 0#32 := by
      simp only [List.mem_cons, List.not_mem_nil, or_false] at listed
      obtain rfl | rfl | rfl | rfl | rfl | rfl | rfl | rfl := listed <;> exact ⟨by omega, fun _ => rfl⟩
    exact intcReads_of inside.1 inside.2
  · exact intcTakes_of (by omega) fun v s => rfl
  · exact intcTakes_of (by omega) fun v s => rfl
  · exact intcTakes_of (by omega) fun v s => rfl
  · have none := intRegAt_other other
    exact ⟨intcReads_of inside fun s => intcRead_of_none none, intcTakes_of inside fun v s => intcWrite_of_none none⟩

/-! ## The DSU -/

theorem dsrAt_eq {n : Nat} (h : n < 32) : dsrAt (8 * n) = some ⟨n, h⟩ := by
  have : 8 * n % 8 = 0 ∧ 8 * n / 8 < 32 := by omega
  rw [dsrAt, dif_pos this]
  congr
  omega

/-- The modes in which DSR1 lets the core write (61_platform_devices.md R644). -/
theorem dsrWriteEnabled_iff (s : State) : dsrWriteEnabled s = true ↔
    (s.psw.getLsbD 0 = false ∧ s.dsu.supervisorWrite = true) ∨ (s.psw.getLsbD 0 = true ∧ s.dsu.userWrite = true) := by
  unfold dsrWriteEnabled State.userMode
  cases s.psw.getLsbD 0 <;> simp

theorem dsuRead_eq {s : State} {n : Nat} (h : n < 32) : dsuRead s (8 * n) = dsrRead s ⟨n, h⟩ := by
  rw [dsuRead, dsrAt_eq h]

/-- A word store of the core to DSRn. -/
theorem dsuWrite_eq {s : State} {n : Nat} (h : n < 32) (v : Word) : dsuWrite s (8 * n) v =
    if (s.psw.getLsbD 0 = false ∧ s.dsu.supervisorWrite = true) ∨ (s.psw.getLsbD 0 = true ∧ s.dsu.userWrite = true)
    then dsrWrite s ⟨n, h⟩ v else s := by
  rw [dsuWrite, dsrAt_eq h]
  simp only [dsrWriteEnabled_iff]

theorem dsrReads_of {n : Nat} {val : State → Word} (inside : n < 32) (h : ∀ s, dsrRead s ⟨n, inside⟩ = val s) :
    DsrReads n val := by
  intro d a i s read window
  rw [exec_ldw_of_dsu read.passes read.uncached window, dsuRead_eq inside, h]

theorem dsrTakes_of {n : Nat} {upd : Word → State → State} (inside : n < 32)
    (h : ∀ v s, dsrWrite s ⟨n, inside⟩ v = upd v s) : DsrTakes n upd := by
  intro b a i s write window
  have stored := storeOp_of_passes (w := .word) (b := b) write.passes
  rw [busWrite_of_dsu window, dsuWrite_eq inside, h] at stored
  exact stored

/-- DSR1 as a number (61_platform_devices.md R643). -/
theorem dsr1_eq (s : State) : dsr1 s = BitVec.ofNat 32 (bitNumber (s.psw.getLsbD 12) +
    2 * bitNumber s.dsu.supervisorWrite + 4 * bitNumber s.dsu.userWrite + 8 * bitNumber s.cfg.bigEndian +
    16 * bitNumber s.dsu.eventAckPending + 32 * bitNumber s.dsu.outputPending + 64 * bitNumber s.dsu.triggerIn +
    128 * bitNumber s.dsu.triggerOut + 256 * bitNumber s.dsu.triggerEnable + 2 ^ 16 * s.dsu.swFlags.toNat) := by
  apply eq_ofNat_of_toNat
  simp only [dsr1, toNat_append_eq, toNat_bit1, BitVec.toNat_ofNat, State.debugMode]
  omega

theorem setIfInBounds_eq_set {α : Type} {n i : Nat} (v : Vector α n) (x : α) (h : i < n) :
    v.setIfInBounds i x = v.set i x := by
  ext j hj
  simp [Vector.getElem_set, Vector.getElem_setIfInBounds]

/-- A store to DSR2 (61_platform_devices.md R645), by the variant of the link. -/
theorem writeOutput_eq (d : Dsu) (variant : DebugVariant) (v : Word) : d.writeOutput variant v =
    if variant = .taplink then
      { d with
        regs := d.regs.set 0 (v &&& 0xFF#32), outputPending := true
        sending := if d.outputPending then d.sending else v &&& 0xFF#32 }
    else
      { d with
        regs := d.regs.set 0 v
        outputPending := if d.eventAckPending then d.outputPending else true
        sending := if d.eventAckPending then d.sending else v } := by
  cases variant with
  | taplink =>
    cases pending : d.outputPending <;> simp [Dsu.writeOutput, Dsu.setReg, setIfInBounds_eq_set, pending]
  | jtag =>
    cases pending : d.eventAckPending <;> simp [Dsu.writeOutput, Dsu.setReg, setIfInBounds_eq_set, pending]

/-- Settles O30: each register of the bank, and what a store that DSR1 admits changes. -/
theorem debugSupportRegisters : Obligations.DebugSupportRegisters := by
  refine ⟨?_, ?_, fun k => ?_, ?_, ?_, ?_, fun k => ?_⟩
  · exact dsrReads_of (by omega) fun s => rfl
  · refine dsrReads_of (by omega) fun s => ?_
    rw [← dsr1_eq]
    rfl
  · refine dsrReads_of (by omega) fun s => ?_
    change s.dsu.regs.toList.getD (k.val + 2 - 2) 0#32 = _
    simp
  · exact dsrTakes_of (by omega) fun v s => rfl
  · refine dsrTakes_of (by omega) fun v s => ?_
    rw [← extractLsb'_eq_shift]
    rfl
  · refine dsrTakes_of (by omega) fun v s => ?_
    change { s with dsu := s.dsu.writeOutput s.cfg.debugVariant v } = _
    rw [writeOutput_eq]
    split <;> rfl
  · exact dsrTakes_of (by omega) fun v s => rfl

end Sys2Proof.Machine
end

section
/-! PROOF. The timers (61_platform_devices.md R602, R604). -/

namespace Sys2Proof.Machine

open Sys2Proof.Rules

/-- How many bus clock cycles pass before the one at which timer `i` expires. -/
def cyclesLeft (t : Timers) (i : Fin 3) : Nat := t.presc.toNat + t.timer[i].count.toNat * (t.divide.toNat + 1)

section
variable {t : Timers} {i : Fin 3}

/-- All timers tick at the cycle at which the prescaler is 0, and at no other. -/
theorem busClock_timer (t : Timers) (i : Fin 3) :
    t.busClock.timer[i] = if t.presc = 0#16 then t.timer[i].tick else t.timer[i] := by
  unfold Timers.busClock
  split
  · match i with
    | 0 | 1 | 2 => rfl
  · rfl

theorem tick_of_disabled {t : Timer} (h : t.enable = false) : t.tick = t := by simp [Timer.tick, h]

/-- At the tick of an enabled timer whose count is 0 it reloads and sets STATUS. -/
theorem busClock_expires (enabled : t.timer[i].enable = true) (left : cyclesLeft t i = 0) :
    t.busClock.timer[i] = { t.timer[i] with count := t.timer[i].const, status := true } := by
  obtain ⟨presc, count⟩ := Nat.add_eq_zero_iff.1 left
  have tick : t.presc = 0#16 := BitVec.eq_of_toNat_eq presc
  have zero : t.timer[i].count = 0#32 := by
    refine BitVec.eq_of_toNat_eq ((Nat.mul_eq_zero.1 count).resolve_right (Nat.succ_ne_zero _))
  rw [busClock_timer, if_pos tick, Timer.tick, if_pos enabled, if_pos zero]

/-- Before that a cycle changes at most the count, and leaves one cycle less. -/
theorem busClock_counts (enabled : t.timer[i].enable = true) {r : Nat} (left : cyclesLeft t i = r + 1) :
    cyclesLeft t.busClock i = r ∧ ∃ c, t.busClock.timer[i] = { t.timer[i] with count := c } := by
  have timer := busClock_timer t i
  by_cases tick : t.presc = 0#16
  · have count : t.timer[i].count ≠ 0#32 := by
      intro zero
      have none := congrArg BitVec.toNat zero
      rw [cyclesLeft, tick, none] at left
      simp at left
    rw [if_pos tick, Timer.tick, if_pos enabled, if_neg count] at timer
    refine ⟨?_, _, timer⟩
    have positive : t.timer[i].count.toNat ≠ 0 := fun zero => count (BitVec.eq_of_toNat_eq zero)
    have reload : t.busClock.presc = t.divide ∧ t.busClock.divide = t.divide := by
      simp [Timers.busClock, tick]
    obtain ⟨c, less⟩ := Nat.exists_eq_succ_of_ne_zero positive
    have next : (t.timer[i].count - 1#32).toNat = c := by bv_omega
    rw [cyclesLeft, less, tick, Nat.succ_mul] at left
    rw [cyclesLeft, timer, reload.1, reload.2, next]
    simp at left
    omega
  · rw [if_neg tick] at timer
    have less : t.busClock.presc = t.presc - 1#16 ∧ t.busClock.divide = t.divide := by
      simp [Timers.busClock, tick]
    refine ⟨?_, _, timer⟩
    have : (t.presc - 1#16).toNat = t.presc.toNat - 1 ∧ 0 < t.presc.toNat := by bv_omega
    rw [cyclesLeft] at left
    rw [cyclesLeft, timer, less.1, less.2]
    omega

/-- A timer keeps STATUS through the cycles that are left and expires at the next one. -/
theorem iterate_busClock (r : Nat) : ∀ t : Timers, t.timer[i].enable = true → cyclesLeft t i = r →
    (∀ m ≤ r, (Timers.busClock^[m] t).timer[i].status = t.timer[i].status) ∧
    (Timers.busClock^[r + 1] t).timer[i] = { t.timer[i] with count := t.timer[i].const, status := true } := by
  induction r with
  | zero =>
    intro t enabled left
    refine ⟨fun m hm => ?_, busClock_expires enabled left⟩
    obtain rfl := Nat.le_zero.1 hm
    rfl
  | succ r ih =>
    intro t enabled left
    obtain ⟨left', c, timer⟩ := busClock_counts enabled left
    obtain ⟨kept, expired⟩ := ih t.busClock (by rw [timer]; exact enabled) left'
    rw [timer] at kept expired
    refine ⟨fun m hm => ?_, expired⟩
    cases m with
    | zero => rfl
    | succ m => exact kept m (by omega)

end

/-- Settles O29, by induction on the cycles that are left. -/
theorem timersExpireAfterTheirCount : Obligations.TimersExpireAfterTheirCount := by
  refine ⟨fun t i n enabled count => ?_, fun t i m disabled => ?_⟩
  · obtain ⟨kept, expired⟩ := iterate_busClock _ t enabled rfl
    have cycles : t.presc.toNat + 1 + n * (t.divide.toNat + 1) = cyclesLeft t i + 1 := by
      rw [cyclesLeft, count]
      omega
    rw [cycles]
    exact ⟨fun m hm => kept m (by omega), expired⟩
  · induction m generalizing t with
    | zero => rfl
    | succ m ih =>
      have timer : t.busClock.timer[i] = t.timer[i] := by
        rw [busClock_timer, tick_of_disabled disabled, ite_self]
      exact (ih t.busClock (timer ▸ disabled)).trans timer

end Sys2Proof.Machine
end

section
/-! PROOF. The performance counters (61_platform_devices.md R670 to R675). -/

namespace Sys2Proof.Machine

open Sys2Proof.Rules

/-! ## How often an event happens -/

/-- The events of a committed bundle. -/
theorem eventHits_of_committedEvents {s : State} {is : List Instr} {k event n : Nat} (nonempty : is ≠ []) (five : event < 32)
    (h : committedEvents s is event = some n) : eventHits s (.committed is) k event = n := by
  unfold committedEvents at h
  split at h
  next bundle => rw [bundle]; exact (if_neg nonempty).trans (Option.some.inj h)
  split at h
  next ldst =>
    obtain rfl := Option.some.inj h
    rw [ldst]
    change is.countP countsLdst = _
    congr 1
    funext i
    unfold countsLdst
    cases kindOf i <;> rfl
  split at h
  next taken =>
    obtain rfl := Option.some.inj h
    rw [taken]
    change is.countP (fun i => changesPc i && takenBranch s i) = _
    congr 1
    funext i
    cases i <;> rfl
  split at h
  next untaken =>
    obtain rfl := Option.some.inj h
    rw [untaken]
    change is.countP (fun i => changesPc i && !takenBranch s i) = _
    congr 1
    funext i
    cases i with
    | brf c t => exact Bool.not_not _
    | _ => rfl
  split at h
  next operations => rw [operations]; exact Option.some.inj h
  split at h
  next extensions => rw [extensions]; exact Option.some.inj h
  split at h
  next none =>
    obtain rfl := Option.some.inj h
    obtain rfl | rfl | rfl | rfl | rfl | rfl :
      event = 14 ∨ event = 15 ∨ event = 28 ∨ event = 29 ∨ event = 30 ∨ event = 31 := by omega
    · rfl
    · simp [eventHits]
    all_goals rfl
  next => cases h

/-- A bundle that does not commit has no operation that counts. -/
theorem eventHits_eq_zero {s : State} {e : Ending} {k event : Nat} (discards : ∀ is, e ≠ .committed is)
    (h : event ∈ [10, 11, 12, 13, 18, 21, 28, 29, 30, 31]) : eventHits s e k event = 0 := by
  simp only [List.mem_cons, List.not_mem_nil, or_false] at h
  cases e with
  | committed is => exact absurd rfl (discards is)
  | trapped _ | debug | waiting _ =>
    obtain rfl | rfl | rfl | rfl | rfl | rfl | rfl | rfl | rfl | rfl := h <;> rfl

/-- The events of a trap. -/
theorem eventHits_of_trapEvents {s : State} {x : Exc} {k event n : Nat} (five : event < 32)
    (h : trapEvents x event = some n) : eventHits s (.trapped x) k event = n := by
  unfold trapEvents at h
  split at h
  next exception => rw [exception]; exact Option.some.inj h
  split at h
  next interrupt =>
    obtain rfl := Option.some.inj h
    rw [interrupt]
    simp [eventHits]
  split at h
  next other =>
    obtain rfl := Option.some.inj h
    refine eventHits_eq_zero (by simp) ?_
    simp only [List.mem_cons, List.not_mem_nil, or_false]
    omega
  next => cases h

/-! ## The counters at the end of a step -/

/-- The end of a step counts the bundle's events and does nothing else to the monitor. -/
theorem finish_pm (s : State) (e : BundleEnd) : (finish s e).pm = (countEvents s e.ending e.state).pm := by
  obtain ⟨_, _, _, _, _, _, settled⟩ := settleBundle_changes s e.ending (countEvents s e.ending e.state)
  unfold finish
  dsimp only
  rw [settled]

/-- A counter that is not stored to grows by its events, unless the bundle stored to PM_CR. -/
theorem finish_counts {s : State} {e : BundleEnd} {k : Fin 4} (enabled : s.pm.enb = true)
    (control : e.state.cregStored ≠ some .pmCr) (counter : e.state.cregStored ≠ some (.pmCnt k)) :
    (finish s e).pm.cnt[k] = e.state.pm.cnt[k] + BitVec.ofNat 32 (eventHits s e.ending k.val s.pm.events[k].toNat) := by
  have counts : (s.pm.enb && e.state.cregStored != some .pmCr) = true := by simp [enabled, control]
  have one : (finish s e).pm.cnt[k] = countOne s e.ending e.state.cregStored k e.state.pm.cnt[k] := by
    rw [finish_pm, countEvents, if_pos counts]
    match k with
    | 0 | 1 | 2 | 3 => rfl
  rw [one, countOne, if_neg counter]

/-- Counters stand still while the monitor is off, for a store to PM_CR and for one to themselves. -/
theorem finish_keeps {s : State} {e : BundleEnd} {k : Fin 4}
    (h : s.pm.enb = false ∨ e.state.cregStored = some .pmCr ∨ e.state.cregStored = some (.pmCnt k)) :
    (finish s e).pm.cnt[k] = e.state.pm.cnt[k] := by
  rw [finish_pm, countEvents]
  split
  next counts =>
    obtain ⟨on, control⟩ := Bool.and_eq_true_iff.1 counts
    obtain off | stored | stored := h
    · cases off.symm.trans on
    · exact absurd stored (bne_iff_ne.1 control)
    · have one : countOne s e.ending e.state.cregStored k e.state.pm.cnt[k] = e.state.pm.cnt[k] := if_pos stored
      refine Eq.trans ?_ one
      match k with
      | 0 | 1 | 2 | 3 => rfl
  next => rfl

/-- Settles O31: the end of a step adds the hits of each counter's event, which has five bits. -/
theorem performanceCountersCountTheirEvents : Obligations.PerformanceCountersCountTheirEvents := by
  refine ⟨fun s t is k n enabled nonempty control counter events => ?_, fun s t x k n enabled stored events => ?_,
    fun s t k enabled stored => ?_, fun s e k h => finish_keeps h, fun s => ?_⟩
  · rw [finish_counts enabled control counter, eventHits_of_committedEvents nonempty s.pm.events[k].isLt events]
  · rw [finish_counts enabled (by simp [stored]) (by simp [stored]),
      eventHits_of_trapEvents s.pm.events[k].isLt events]
  · rw [finish_counts enabled (by simp [stored]) (by simp [stored])]
    refine ⟨fun taken => ?_, fun other => ?_⟩
    · rw [taken]
      rfl
    · have none : eventHits s .debug k.val s.pm.events[k].toNat = 0 := by
        by_cases interrupt : s.pm.events[k].toNat = 15
        · rw [interrupt]
          rfl
        · refine eventHits_eq_zero (by simp) ?_
          simp only [List.mem_cons, List.not_mem_nil, or_false] at other ⊢
          omega
      rw [none]
      exact BitVec.add_zero _
  · change (coreClock s).pm.pclk = _ ∧ { coreClock s with pm := { (coreClock s).pm with pclk := s.pm.pclk } } = s
    unfold coreClock
    cases s.pm.enb with
    | false => exact ⟨(BitVec.add_zero _).symm, rfl⟩
    | true => exact ⟨rfl, rfl⟩

end Sys2Proof.Machine
end

section
/-! PROOF. What the inputs of the environment do (61_platform_devices.md R581 to R657, 20_memory.md R190). -/

namespace Sys2Proof.Machine

open Sys2Proof.Rules

/-! ## Writes that fail later -/

/-- The records from `j` to below `k`. -/
theorem mem_drop_take {xs : List StaleWord} {j k : Nat} {y : StaleWord} :
    y ∈ (xs.take k).drop j ↔ ∃ m, j ≤ m ∧ m < k ∧ xs[m]? = some y := by
  simp only [List.mem_iff_getElem?, List.getElem?_drop, List.getElem?_take]
  constructor
  · rintro ⟨i, h⟩
    split at h
    · exact ⟨j + i, by omega, by omega, h⟩
    · cases h
  · rintro ⟨m, low, high, h⟩
    refine ⟨m - j, ?_⟩
    rw [Nat.add_sub_cancel' low, if_pos high, h]

/-- The bytes of a lost store that no record between wrote. -/
theorem undoIn_notStored (big : Bool) (x : StaleWord) (xs : List StaleWord) (j k : Nat) {i : Nat} (hi : i < 4) :
    (undoIn big x ((xs.take k).drop j)).2.getLsbD i = true ↔
      x.bytes.getLsbD i = true ∧ NotStored xs j k x.addr i := by
  rw [undoIn_bytes big x _ hi]
  refine and_congr_right fun _ => ⟨fun h m y low high hy => h y (mem_drop_take.2 ⟨m, low, high, hy⟩), fun h y hy => ?_⟩
  obtain ⟨m, low, high, hm⟩ := mem_drop_take.1 hy
  exact h m y low high hm

theorem chosen_ite {c : Prop} {b : Bool} {new old : Byte} (h : b = true ↔ c) :
    Chosen c new old (if b then new else old) :=
  ⟨fun hc => if_pos (h.2 hc), fun hc => if_neg fun hb => hc (h.1 hb)⟩

theorem wordByte_eq (big : Bool) (w : Word) (i : Nat) : wordByte big w i = valueByte w (if big then 3 - i else i) :=
  (valueByte_eq_ofNat _ _).symm

/-- The record of a store, later or earlier than the lost one, after that is undone. -/
theorem undoStore_record {k j : Nat} {x y : StaleWord} {s : State} (hk : s.stale[k]? = some x) (hj : s.stale[j]? = some y) :
    (undoStore k x s).stale[j]? = some
      (if j < k then
        if y.addr = x.addr then
          { y with old := putBytes s.cfg.bigEndian (undoIn s.cfg.bigEndian x ((s.stale.take k).drop (j + 1))).2 x.old y.old }
        else y
      else if j = k then { x with bytes := 0#4 } else y) := by
  have inside : k < s.stale.length := (List.getElem?_eq_some_iff.1 hk).1
  have earlier : (undoIn s.cfg.bigEndian x (s.stale.take k)).1.length = k := by
    rw [undoIn_length, List.length_take, Nat.min_eq_left inside.le]
  rw [undoStore_stale]
  obtain before | rfl | after := lt_trichotomy j k
  · rw [List.getElem?_append_left (by omega), if_pos before]
    exact undoIn_get _ x (by rw [List.getElem?_take, if_pos before, hj])
  · rw [List.getElem?_append_right (by omega), earlier, if_neg (by omega), if_pos rfl, Nat.sub_self]
    rfl
  · obtain ⟨d, rfl⟩ : ∃ d, j = k + 1 + d := ⟨j - (k + 1), by omega⟩
    rw [List.getElem?_append_right (by omega), earlier, if_neg (by omega), if_neg (by omega),
      show k + 1 + d - k = d + 1 by omega, List.getElem?_cons_succ, List.getElem?_drop, hj]

/-- A write that is lost: the store of its record is undone. -/
theorem writeLost_undoStore {k : Nat} {x : StaleWord} {s : State} (hk : s.stale[k]? = some x) (wf : Memory.wf s.mem = true) :
    WriteLost k x s { undoStore k x s with busErrorPending := true } where
  pending := rfl
  rest := rfl
  canonical := undoStore_wf wf k x
  undone i hi := by
    rw [wordByte_eq]
    exact (memByte_undoStore wf k x hi).symm ▸ chosen_ite (undoIn_notStored _ x s.stale 0 k hi)
  others a ha := by
    refine memByte_undoStore_other wf k x fun covered => ?_
    obtain ⟨i, hi, place⟩ := (Width.covers_iff _ _ _).1 covered
    exact ha i hi place
  records j y hj := by
    have record := undoStore_record hk hj
    by_cases before : j < k
    · have other : j ≠ k := by omega
      by_cases same : y.addr = x.addr
      · rw [if_pos before, if_pos same] at record
        refine ⟨_, record, rfl, (if_neg other).symm, fun i hi => ?_⟩
        rw [wordByte_eq, wordByte_eq, wordByte_eq, valueByte_putBytes _ _ _ _ hi]
        refine chosen_ite ((undoIn_notStored _ x s.stale (j + 1) k hi).trans ?_)
        simp [before, same]
      · rw [if_pos before, if_neg same] at record
        exact ⟨_, record, rfl, (if_neg other).symm, fun i _ => ⟨fun h => absurd h.2.1 same, fun _ => rfl⟩⟩
    · rw [if_neg before] at record
      by_cases lost : j = k
      · obtain rfl : x = y := by
          rw [lost, hk] at hj
          exact Option.some.inj hj
        rw [if_pos lost] at record
        exact ⟨_, record, rfl, (if_pos lost).symm, fun i _ => ⟨fun h => absurd h.1 before, fun _ => rfl⟩⟩
      · rw [if_neg lost] at record
        exact ⟨_, record, rfl, (if_neg lost).symm, fun i _ => ⟨fun h => absurd h.1 before, fun _ => rfl⟩⟩

/-! ## The ports -/

theorem sdiPush_of_room {s : State} {i : Fin 4} (input : s.cfg.sdi[i].isInput = true) (awake : s.coreIdle = false)
    (resetIn : s.sdi[i].resetIn = false) (resetOut : s.sdi[i].resetOut = false)
    (room : s.sdi[i].chan.length < s.cfg.sdi[i].depth) (v : Word) :
    sdiPush s i v = { s with sdi := s.sdi.set i { s.sdi[i] with chan := s.sdi[i].chan ++ [v] } } := by
  have running : s.sdi[i].inReset = false := by rw [SdiPort.inReset, resetIn, resetOut]; rfl
  exact if_pos (by rw [input, awake, running, decide_eq_true room]; rfl)

theorem sdiPop_of_output {s : State} {i : Fin 4} (output : s.cfg.sdi[i].isInput = false) {v : Word} {rest : List Word}
    (items : s.sdi[i].chan = v :: rest) :
    sdiPop s i = { s with sdi := s.sdi.set i { s.sdi[i] with chan := rest } } := by
  rw [sdiPop, output, items]
  rfl

theorem setResetIn_eq (c : SdiCfg) (p : SdiPort) (v : Bool) : p.setResetIn c v =
    { p with resetIn := v, chan := if c.isMaster = false ∧ v = true ∧ p.resetIn = false then [] else p.chan } := by
  unfold SdiPort.setResetIn
  simp only [Bool.and_eq_true, Bool.not_eq_true', and_assoc]

/-! ## The host and the link -/

/-- A poke of one register, in both variants of the link. -/
theorem applyEvent_poke (s : State) (r : Fin 32) (v : Word) : applyEvent (.host (.poke r [v])) s = dsrWrite s r v := by
  have one : hostPoke s r.val [v] = dsrWrite s r v := dif_pos r.isLt
  cases variant : s.cfg.debugVariant with
  | taplink => exact (if_pos variant).trans one
  | jtag => exact (if_neg (by simp [variant])).trans one

theorem dsrWrite_of_three_le {r : Fin 32} (h : 3 ≤ r.val) (s : State) (v : Word) : dsrWrite s r v =
    { s with dsu := { s.dsu with regs := s.dsu.regs.setIfInBounds (r.val - 2) v } } := by
  obtain ⟨n, hn⟩ := r
  obtain ⟨m, rfl⟩ := Nat.exists_eq_add_of_le' h
  rfl

/-- A message does what its variant of the link makes of it. -/
theorem applyEvent_host (m : HostMsg) (s : State) : applyEvent (.host m) s =
    if s.cfg.debugVariant = .taplink then taplinkMessage m s else jtagMessage m s := rfl

theorem linkSent_of_pending {s : State} (h : s.dsu.outputPending = true) : linkSent s =
    { s with dsu := { s.dsu with
        outputPending := false
        eventAckPending := if s.cfg.debugVariant = .jtag then true else s.dsu.eventAckPending } } := by
  rw [linkSent, if_pos h]
  cases s.cfg.debugVariant <;> simp

/-! ## The inputs of a step -/

theorem envTick_of_nil {s : State} (h : s.env = []) : envTick s = applyEvent .coreClock (applyEvent .busClock s) := by
  have tail : { s with env := s.env.tail } = s := by rw [h, List.tail_nil, ← h]
  rw [envTick, tail, inputsNow, h]
  rfl

theorem envTick_of_cons {s : State} {es : List EnvEvent} {rest : List (List EnvEvent)} (h : s.env = es :: rest) :
    envTick s = applyEvent .coreClock (es.foldl (fun t e => applyEvent e t) { s with env := rest }) := by
  rw [envTick, inputsNow, h]
  rfl

/-- Settles O32: each input, the writes that fail later and the host's messages by the lemmas above. -/
theorem environmentInputsActOnTheirDevices : Obligations.EnvironmentInputsActOnTheirDevices := by
  intro s
  refine ⟨fun v => rfl, fun v => rfl, fun v => rfl, fun k early => ?_, fun k x hk late wf => ?_,
    fun i v input awake resetIn resetOut room => sdiPush_of_room input awake resetIn resetOut room v,
    fun i v rest output items => sdiPop_of_output output items, fun i v => ?_,
    fun r v h => (applyEvent_poke s r v).trans (dsrWrite_of_three_le h s v), fun r vs taplink many => ?_, fun r n => ?_, ?_, ?_,
    fun reason other => ?_, ?_, fun pending => ?_, fun pa v off window => ?_, fun pa v n window => ?_, fun pa => rfl, rfl,
    envTick_of_nil, fun es rest => envTick_of_cons, fun t ht => ?_⟩
  · obtain same | ⟨x, hx, late, -⟩ := lateWriteFails_cases k s
    · exact same
    · exact absurd (early x hx) late
  · obtain same | ⟨y, hy, -, undone⟩ := lateWriteFails_cases k s
    · exact .inl same
    · obtain rfl : x = y := Option.some.inj (hk.symm.trans hy)
      exact .inr ((congrArg (WriteLost k x s) undone).mpr (writeLost_undoStore hk wf))
  · exact congrArg (fun p => s.setSdi i p) (setResetIn_eq _ _ v)
  · rw [applyEvent_host, if_pos taplink]
    exact if_pos many
  · rw [applyEvent_host]
    exact ite_self _
  · rw [applyEvent_host]
    exact ite_self _
  · rw [applyEvent_host]
    exact ite_self _
  · rw [applyEvent_host]
    split
    · exact if_neg other
    · exact if_neg fun both => other both.1
  · rw [applyEvent_host]
    cases s.cfg.debugVariant <;> rfl
  · have sent : applyEvent .linkSent s = linkSent s := rfl
    rw [sent, linkSent_of_pending pending]
    exact ⟨rfl, rfl, by rw [← pending]⟩
  · change initiatorWrite s pa v = _
    rw [initiatorWrite, window]
  · change initiatorWrite s pa v = _
    rw [initiatorWrite, window]
    exact dsuWrite_eq n.isLt v
  · change runStep s = _
    rw [runStep, ht]

end Sys2Proof.Machine
end

section
/-! PROOF. Reset (70_reset_and_hazards.md R701, R702). -/

namespace Sys2Proof.Machine

open Sys2Proof.Rules

/-- Every port after reset (61_platform_devices.md R624 to R626, R630). -/
theorem resetWith_sdi (c : Cfg) (x : Fin 4) : (State.resetWith c).sdi[x] = SdiPort.reset c.sdi[x] := by
  match x with
  | 0 | 1 | 2 | 3 => rfl

/-- Settles O53: the fields of the state after reset. -/
theorem resetValues : Obligations.ResetValues := by
  rintro c s rfl
  have filled {α : Type} {n : Nat} (v : α) (x : Fin n) : (Vector.replicate n v)[x] = v := Vector.getElem_replicate _
  have port (x : Fin 4) := resetWith_sdi c x
  refine ⟨rfl, rfl, rfl, rfl, rfl, rfl, rfl, rfl, rfl, rfl, fun x => ?_, rfl, rfl, rfl, rfl, fun x => ?_, rfl, fun x => ?_,
    rfl, rfl, rfl, rfl, fun x => filled _ x, rfl, rfl, rfl, rfl, rfl, rfl, rfl, fun x => filled _ x, rfl, rfl, rfl, rfl⟩
  · have region : (State.resetWith c).scu[x] = ⟨0#19, 0x7FFFF#19⟩ := filled _ x
    rw [region]
    exact ⟨rfl, rfl⟩
  · exact ⟨filled _ x, filled _ x⟩
  · rw [port]
    exact ⟨rfl, rfl, rfl, rfl, rfl, rfl⟩

/-- The core starts at the debug ROM or at RESET_PC (70_reset_and_hazards.md R701). -/
theorem wordAligned_startPc {c : Cfg} (h : c.resetPc &&& 3#32 = 0#32) : wordAligned (Cfg.startPc c) := by
  unfold Cfg.startPc
  split
  · refine wordAligned_add (n := 0x1000) ((wordAligned_iff _).2 ?_)
    rw [Cfg.peripheralBase, toNat_append_eq, BitVec.toNat_ofNat]
    omega
  · exact h

theorem resetWith_inv {c : Cfg} (h : c.resetPc &&& 3#32 = 0#32) : (State.resetWith c).Inv where
  pcAligned := wordAligned_startPc h
  pswReserved := BitVec.zero_and
  memory := rfl
  tlbIndex := Nat.zero_le _
  sdiDepth i := by
    rw [resetWith_sdi]
    exact Nat.zero_le _
  idle awake := absurd awake Bool.false_ne_true
  atRest := ⟨rfl, rfl, rfl, rfl⟩

/-- Settles O54: the start address is word aligned and everything else is at its least. -/
theorem resetMeetsTheInvariant : Obligations.ResetMeetsTheInvariant :=
  ⟨resetWith_inv (by decide), fun _ => resetWith_inv⟩

end Sys2Proof.Machine
end
